-- ==== Sys2Proof/Word.lean ====
section
/-! DEFINITION. The word types of the ADSP-2106x (spec 00_scope.md R7, R10). Bit 0 is the least significant
bit of every register and word. Only the types stand here; every field access is in a file a repair may mend. -/

namespace Sys2Proof

/-- One byte of the model's memory list (a representation: the machine has no byte address, R100). -/
abbrev Byte := BitVec 8

/-- A 32-bit word: fixed-point operands, system registers, DAG1 registers, DM addresses (R7). -/
abbrev W32 := BitVec 32

/-- A 40-bit data register or DM data bus value (R7, R20). -/
abbrev W40 := BitVec 40

/-- A 48-bit instruction word, PX register or PM data bus value (R7, R140). -/
abbrev W48 := BitVec 48

/-- An 80-bit multiplier result register (R27). -/
abbrev W80 := BitVec 80

/-- A 24-bit program address or DAG2 register (R7, R32). -/
abbrev A24 := BitVec 24

end Sys2Proof
end

