-- ==== Sys2Proof/Syntax.lean ====
section
/-! DEFINITION. The abstract syntax `Instr` (30_encoding.md R146, R148): one constructor per row of
spec/opcode_table.json. The 140 computations stand twice: as operations of the compute slot (`Compute`), which moves,
branches and the conditional compute-alone form carry, and as instructions of their own (a computation written alone,
without IF). -/

namespace Sys2Proof

/-- A data register number: R0-R15, F0-F15 (R20). -/
abbrev Reg := Fin 16

/-- One of the four registers a multifunction operand may be (R373). -/
abbrev Quad := Fin 4

/-- The 32 condition and termination codes of Table 3.2, in code order 0 to 31 (R421). -/
inductive Cond where
  /-- EQ: AZ = 1. -/
  | eq
  /-- LT (note 1). -/
  | lt
  /-- LE (note 2). -/
  | le
  /-- AC = 1. -/
  | ac
  /-- AV = 1. -/
  | av
  /-- MV = 1. -/
  | mv
  /-- MS: MN = 1. -/
  | ms
  /-- SV = 1. -/
  | sv
  /-- SZ = 1. -/
  | sz
  /-- FLAG0_IN. -/
  | flag0
  /-- FLAG1_IN. -/
  | flag1
  /-- FLAG2_IN. -/
  | flag2
  /-- FLAG3_IN. -/
  | flag3
  /-- TF: BTF = 1. -/
  | tf
  /-- BM: bus master (R424). -/
  | bm
  /-- code 15: LCE as a loop termination, NOT LCE as an IF condition (R451). -/
  | lce
  /-- NE: AZ = 0. -/
  | ne
  /-- GE (note 3). -/
  | ge
  /-- GT (note 4). -/
  | gt
  /-- NOT AC. -/
  | notAc
  /-- NOT AV. -/
  | notAv
  /-- NOT MV. -/
  | notMv
  /-- NOT MS. -/
  | notMs
  /-- NOT SV. -/
  | notSv
  /-- NOT SZ. -/
  | notSz
  /-- NOT FLAG0_IN. -/
  | notFlag0
  /-- NOT FLAG1_IN. -/
  | notFlag1
  /-- NOT FLAG2_IN. -/
  | notFlag2
  /-- NOT FLAG3_IN. -/
  | notFlag3
  /-- NOT TF. -/
  | notTf
  /-- NBM: not bus master (R424). -/
  | nbm
  /-- code 31: FOREVER as a loop termination, TRUE as an IF condition. -/
  | tru
deriving DecidableEq, Repr

/-- The system registers (R44). -/
inductive Sreg where
  | mode1
  | mode2
  | irptl
  | imask
  | imaskp
  | astat
  | stky
  | ustat1
  | ustat2
deriving DecidableEq, Repr

/-- The four kinds of data address generator register (R58, R398). -/
inductive DagKind where
  /-- index (address pointer) -/
  | i
  /-- modifier -/
  | m
  /-- length -/
  | l
  /-- base -/
  | b
deriving DecidableEq, Repr

/-- The universal registers (R60). `dag1 k n` is register n of kind k in DAG1 (I0-I7 and so on), `dag2 k n` is number
8 + n (I8-I15 and so on). -/
inductive Ureg where
  | r (n : Reg)
  | dag1 (k : DagKind) (n : Fin 8)
  | dag2 (k : DagKind) (n : Fin 8)
  /-- The 48-bit bus connect register (R404). -/
  | px
  /-- PX bits 15-0. -/
  | px1
  /-- PX bits 47-16. -/
  | px2
  /-- Fetch address, read only (R32). -/
  | faddr
  /-- Decode address, read only (R32). -/
  | daddr
  /-- Execute address, read only (R32). -/
  | pc
  /-- Top of the PC stack (R34). -/
  | pcstk
  /-- PC stack pointer (R34). -/
  | pcstkp
  /-- Top of the loop address stack (R37). -/
  | laddr
  /-- Top of the loop counter stack (R39). -/
  | curlcntr
  /-- The count of the next loop (R40). -/
  | lcntr
  | sys (s : Sreg)
  /-- Timer count (R540). -/
  | tcount
  /-- Timer period (R540). -/
  | tperiod
deriving DecidableEq, Repr

/-- Signed or unsigned input of a fixed-point multiplier operation (R261). -/
inductive Sgn where
  | s
  | u
deriving DecidableEq, Repr

/-- Integer, fractional, or fractional with rounded output (R261). -/
inductive MulFmt where
  | i
  | f
  | fr
deriving DecidableEq, Repr

/-- The modifier `(sx sy fmt)` of a two-input multiplier instruction; (SSF) is the default (R261). -/
structure MulMod where
  sx : Sgn
  sy : Sgn
  fmt : MulFmt
deriving DecidableEq, Repr

/-- The modifier `(s fmt)` of SAT, fmt integer or fractional; (SF) is the default (R261, R276). -/
structure SatMod where
  sg : Sgn
  frac : Bool
deriving DecidableEq, Repr

/-- An explicit operation on one of the stacks: none, PUSH or POP (R146: the stack operations are combinable). -/
inductive StackOp where
  | none
  | push
  | pop
deriving DecidableEq, Repr

/-- `<addr24> UNTIL term`, after DO: the end address and the termination (R146, R441). -/
structure DoUntil where
  addr : A24
  term : Cond
deriving DecidableEq, Repr

/-- The target of a jump: absolute, PC-relative, or (Md, Ic) through DAG2 (R431 to R433). Register numbers are
those of DAG2 less 8. -/
inductive Target where
  | abs (addr : A24)
  | rel (off : A24)
  | ind (m i : Fin 8)
deriving DecidableEq, Repr

/-- One side of the two-move form: a load or a store of a data register through I and M of the side's DAG (R397). -/
structure DualSide where
  store : Bool
  reg : Reg
  i : Fin 8
  m : Fin 8
deriving DecidableEq, Repr

/-- What the compute slot of an instruction can hold: one ALU, multiplier, shifter or multifunction operation, or an
MR transfer (R146). Quad operands are offsets into R0-R3 (`xm`), R4-R7 (`ym`), R8-R11 (`xa`), R12-R15 (`ya`). -/
inductive Compute where
  /-- `Rn = Rx + Ry` (R173). -/
  | rAdd (n x y : Reg)
  /-- `Rn = Rx - Ry` (R174). -/
  | rSub (n x y : Reg)
  /-- `Rn = Rx + Ry + CI` (R175). -/
  | rAddCi (n x y : Reg)
  /-- `Rn = Rx - Ry + CI - 1` (R176). -/
  | rSubCi (n x y : Reg)
  /-- `Rn = (Rx + Ry)/2` (R177). -/
  | rAvg (n x y : Reg)
  /-- `COMP(Rx, Ry)` (R178). -/
  | rComp (x y : Reg)
  /-- `Rn = Rx + CI` (R179). -/
  | rPlusCi (n x : Reg)
  /-- `Rn = Rx + CI - 1` (R180). -/
  | rPlusCiLess1 (n x : Reg)
  /-- `Rn = Rx + 1` (R181). -/
  | rInc (n x : Reg)
  /-- `Rn = Rx - 1` (R182). -/
  | rDec (n x : Reg)
  /-- `Rn = -Rx` (R183). -/
  | rNeg (n x : Reg)
  /-- `Rn = ABS Rx` (R184). -/
  | rAbs (n x : Reg)
  /-- `Rn = PASS Rx` (R185). -/
  | rPass (n x : Reg)
  /-- `Rn = Rx AND Ry` (R186). -/
  | rAnd (n x y : Reg)
  /-- `Rn = Rx OR Ry` (R187). -/
  | rOr (n x y : Reg)
  /-- `Rn = Rx XOR Ry` (R188). -/
  | rXor (n x y : Reg)
  /-- `Rn = NOT Rx` (R189). -/
  | rNot (n x : Reg)
  /-- `Rn = MIN(Rx, Ry)` (R190). -/
  | rMin (n x y : Reg)
  /-- `Rn = MAX(Rx, Ry)` (R191). -/
  | rMax (n x y : Reg)
  /-- `Rn = CLIP Rx BY Ry` (R192). -/
  | rClip (n x y : Reg)
  /-- `Fn = Fx + Fy` (R220). -/
  | fAdd (n x y : Reg)
  /-- `Fn = Fx - Fy` (R221). -/
  | fSub (n x y : Reg)
  /-- `Fn = ABS (Fx + Fy)` (R222). -/
  | fAbsAdd (n x y : Reg)
  /-- `Fn = ABS (Fx - Fy)` (R223). -/
  | fAbsSub (n x y : Reg)
  /-- `Fn = (Fx + Fy)/2` (R224). -/
  | fAvg (n x y : Reg)
  /-- `COMP(Fx, Fy)` (R225). -/
  | fComp (x y : Reg)
  /-- `Fn = -Fx` (R226). -/
  | fNeg (n x : Reg)
  /-- `Fn = ABS Fx` (R227). -/
  | fAbs (n x : Reg)
  /-- `Fn = PASS Fx` (R228). -/
  | fPass (n x : Reg)
  /-- `Fn = RND Fx` (R229). -/
  | fRnd (n x : Reg)
  /-- `Fn = SCALB Fx BY Ry` (R230). -/
  | fScalb (n x y : Reg)
  /-- `Rn = MANT Fx` (R231). -/
  | fMant (n x : Reg)
  /-- `Rn = LOGB Fx` (R232). -/
  | fLogb (n x : Reg)
  /-- `Rn = FIX Fx BY Ry` (R233). -/
  | fFixBy (n x y : Reg)
  /-- `Rn = FIX Fx` (R234). -/
  | fFix (n x : Reg)
  /-- `Fn = FLOAT Rx BY Ry` (R235). -/
  | fFloatBy (n x y : Reg)
  /-- `Fn = FLOAT Rx` (R236). -/
  | fFloat (n x : Reg)
  /-- `Fn = RECIPS Fx` (R237). -/
  | fRecips (n x : Reg)
  /-- `Fn = RSQRTS Fx` (R238). -/
  | fRsqrts (n x : Reg)
  /-- `Fn = Fx COPYSIGN Fy` (R239). -/
  | fCopysign (n x y : Reg)
  /-- `Fn = MIN(Fx, Fy)` (R240). -/
  | fMin (n x y : Reg)
  /-- `Fn = MAX(Fx, Fy)` (R241). -/
  | fMax (n x y : Reg)
  /-- `Fn = CLIP Fx BY Fy` (R242). -/
  | fClip (n x y : Reg)
  /-- `Rn = Rx * Ry (mod)` (R270). -/
  | mulR (n x y : Reg) (md : MulMod)
  /-- `MRF = Rx * Ry (mod)` (R271). -/
  | mulMrf (x y : Reg) (md : MulMod)
  /-- `MRB = Rx * Ry (mod)` (R271). -/
  | mulMrb (x y : Reg) (md : MulMod)
  /-- `Rn = MRF + Rx * Ry (mod)` (R272). -/
  | macAddRMrf (n x y : Reg) (md : MulMod)
  /-- `Rn = MRB + Rx * Ry (mod)` (R272). -/
  | macAddRMrb (n x y : Reg) (md : MulMod)
  /-- `MRF = MRF + Rx * Ry (mod)` (R273). -/
  | macAddMrf (x y : Reg) (md : MulMod)
  /-- `MRB = MRB + Rx * Ry (mod)` (R273). -/
  | macAddMrb (x y : Reg) (md : MulMod)
  /-- `Rn = MRF - Rx * Ry (mod)` (R274). -/
  | macSubRMrf (n x y : Reg) (md : MulMod)
  /-- `Rn = MRB - Rx * Ry (mod)` (R274). -/
  | macSubRMrb (n x y : Reg) (md : MulMod)
  /-- `MRF = MRF - Rx * Ry (mod)` (R275). -/
  | macSubMrf (x y : Reg) (md : MulMod)
  /-- `MRB = MRB - Rx * Ry (mod)` (R275). -/
  | macSubMrb (x y : Reg) (md : MulMod)
  /-- `Rn = SAT MRF (s fmt)` (R276). -/
  | satRMrf (n : Reg) (md : SatMod)
  /-- `Rn = SAT MRB (s fmt)` (R276). -/
  | satRMrb (n : Reg) (md : SatMod)
  /-- `MRF = SAT MRF (s fmt)` (R277). -/
  | satMrf (md : SatMod)
  /-- `MRB = SAT MRB (s fmt)` (R277). -/
  | satMrb (md : SatMod)
  /-- `Rn = RND MRF (s F)` (R278). -/
  | rndRMrf (n : Reg) (sg : Sgn)
  /-- `Rn = RND MRB (s F)` (R278). -/
  | rndRMrb (n : Reg) (sg : Sgn)
  /-- `MRF = RND MRF (s F)` (R279). -/
  | rndMrf (sg : Sgn)
  /-- `MRB = RND MRB (s F)` (R279). -/
  | rndMrb (sg : Sgn)
  /-- `MRF = 0` (R280). -/
  | clrMrf
  /-- `MRB = 0` (R280). -/
  | clrMrb
  /-- `Rn = MR0F` (R290). -/
  | rdMr0f (n : Reg)
  /-- `Rn = MR1F` (R290). -/
  | rdMr1f (n : Reg)
  /-- `Rn = MR2F` (R290). -/
  | rdMr2f (n : Reg)
  /-- `Rn = MR0B` (R290). -/
  | rdMr0b (n : Reg)
  /-- `Rn = MR1B` (R290). -/
  | rdMr1b (n : Reg)
  /-- `Rn = MR2B` (R290). -/
  | rdMr2b (n : Reg)
  /-- `MR0F = Rn` (R291). -/
  | wrMr0f (n : Reg)
  /-- `MR1F = Rn` (R291). -/
  | wrMr1f (n : Reg)
  /-- `MR2F = Rn` (R291). -/
  | wrMr2f (n : Reg)
  /-- `MR0B = Rn` (R291). -/
  | wrMr0b (n : Reg)
  /-- `MR1B = Rn` (R291). -/
  | wrMr1b (n : Reg)
  /-- `MR2B = Rn` (R291). -/
  | wrMr2b (n : Reg)
  /-- `Fn = Fx * Fy` (R292). -/
  | fMul (n x y : Reg)
  /-- `Rn = LSHIFT Rx BY Ry` (R313). -/
  | lshift (n x y : Reg)
  /-- `Rn = LSHIFT Rx BY <data8>` (R313). -/
  | lshiftImm (n x : Reg) (d : BitVec 8)
  /-- `Rn = Rn OR LSHIFT Rx BY Ry` (R314). -/
  | orLshift (n x y : Reg)
  /-- `Rn = Rn OR LSHIFT Rx BY <data8>` (R314). -/
  | orLshiftImm (n x : Reg) (d : BitVec 8)
  /-- `Rn = ASHIFT Rx BY Ry` (R315). -/
  | ashift (n x y : Reg)
  /-- `Rn = ASHIFT Rx BY <data8>` (R315). -/
  | ashiftImm (n x : Reg) (d : BitVec 8)
  /-- `Rn = Rn OR ASHIFT Rx BY Ry` (R316). -/
  | orAshift (n x y : Reg)
  /-- `Rn = Rn OR ASHIFT Rx BY <data8>` (R316). -/
  | orAshiftImm (n x : Reg) (d : BitVec 8)
  /-- `Rn = ROT Rx BY Ry` (R317). -/
  | rot (n x y : Reg)
  /-- `Rn = ROT Rx BY <data8>` (R317). -/
  | rotImm (n x : Reg) (d : BitVec 8)
  /-- `Rn = BCLR Rx BY Ry` (R318). -/
  | bclr (n x y : Reg)
  /-- `Rn = BCLR Rx BY <data8>` (R318). -/
  | bclrImm (n x : Reg) (d : BitVec 8)
  /-- `Rn = BSET Rx BY Ry` (R319). -/
  | bset (n x y : Reg)
  /-- `Rn = BSET Rx BY <data8>` (R319). -/
  | bsetImm (n x : Reg) (d : BitVec 8)
  /-- `Rn = BTGL Rx BY Ry` (R320). -/
  | btgl (n x y : Reg)
  /-- `Rn = BTGL Rx BY <data8>` (R320). -/
  | btglImm (n x : Reg) (d : BitVec 8)
  /-- `BTST Rx BY Ry` (R321). -/
  | btst (x y : Reg)
  /-- `BTST Rx BY <data8>` (R321). -/
  | btstImm (x : Reg) (d : BitVec 8)
  /-- `Rn = FDEP Rx BY Ry` (R322). -/
  | fdep (n x y : Reg)
  /-- `Rn = FDEP Rx BY <bit6>:<len6>` (R322). -/
  | fdepImm (n x : Reg) (bit len : BitVec 6)
  /-- `Rn = Rn OR FDEP Rx BY Ry` (R323). -/
  | orFdep (n x y : Reg)
  /-- `Rn = Rn OR FDEP Rx BY <bit6>:<len6>` (R323). -/
  | orFdepImm (n x : Reg) (bit len : BitVec 6)
  /-- `Rn = FDEP Rx BY Ry (SE)` (R324). -/
  | fdepSe (n x y : Reg)
  /-- `Rn = FDEP Rx BY <bit6>:<len6> (SE)` (R324). -/
  | fdepSeImm (n x : Reg) (bit len : BitVec 6)
  /-- `Rn = Rn OR FDEP Rx BY Ry (SE)` (R325). -/
  | orFdepSe (n x y : Reg)
  /-- `Rn = Rn OR FDEP Rx BY <bit6>:<len6> (SE)` (R325). -/
  | orFdepSeImm (n x : Reg) (bit len : BitVec 6)
  /-- `Rn = FEXT Rx BY Ry` (R326). -/
  | fext (n x y : Reg)
  /-- `Rn = FEXT Rx BY <bit6>:<len6>` (R326). -/
  | fextImm (n x : Reg) (bit len : BitVec 6)
  /-- `Rn = FEXT Rx BY Ry (SE)` (R327). -/
  | fextSe (n x y : Reg)
  /-- `Rn = FEXT Rx BY <bit6>:<len6> (SE)` (R327). -/
  | fextSeImm (n x : Reg) (bit len : BitVec 6)
  /-- `Rn = EXP Rx` (R328). -/
  | expo (n x : Reg)
  /-- `Rn = EXP Rx (EX)` (R329). -/
  | expoEx (n x : Reg)
  /-- `Rn = LEFTZ Rx` (R330). -/
  | leftz (n x : Reg)
  /-- `Rn = LEFTO Rx` (R331). -/
  | lefto (n x : Reg)
  /-- `Rn = FPACK Fx` (R332). -/
  | fpack (n x : Reg)
  /-- `Fn = FUNPACK Rx` (R333). -/
  | funpack (n x : Reg)
  /-- `Ra = Rx + Ry , Rs = Rx - Ry` (R371). -/
  | dualAddSub (a s x y : Reg)
  /-- `Fa = Fx + Fy , Fs = Fx - Fy` (R372). -/
  | dualFAddSub (a s x y : Reg)
  /-- `Rm = R3-0 * R7-4 (SSFR) , Ra = R11-8 + R15-12` (R374). -/
  | mulRWithAdd (m a : Reg) (xm ym xa ya : Quad)
  /-- `Rm = R3-0 * R7-4 (SSFR) , Ra = R11-8 - R15-12` (R374). -/
  | mulRWithSub (m a : Reg) (xm ym xa ya : Quad)
  /-- `Rm = R3-0 * R7-4 (SSFR) , Ra = (R11-8 + R15-12)/2` (R374). -/
  | mulRWithAvg (m a : Reg) (xm ym xa ya : Quad)
  /-- `MRF = MRF + R3-0 * R7-4 (SSF) , Ra = R11-8 + R15-12` (R374). -/
  | macAddMrfWithAdd (a : Reg) (xm ym xa ya : Quad)
  /-- `MRF = MRF + R3-0 * R7-4 (SSF) , Ra = R11-8 - R15-12` (R374). -/
  | macAddMrfWithSub (a : Reg) (xm ym xa ya : Quad)
  /-- `MRF = MRF + R3-0 * R7-4 (SSF) , Ra = (R11-8 + R15-12)/2` (R374). -/
  | macAddMrfWithAvg (a : Reg) (xm ym xa ya : Quad)
  /-- `Rm = MRF + R3-0 * R7-4 (SSFR) , Ra = R11-8 + R15-12` (R374). -/
  | macAddRMrfWithAdd (m a : Reg) (xm ym xa ya : Quad)
  /-- `Rm = MRF + R3-0 * R7-4 (SSFR) , Ra = R11-8 - R15-12` (R374). -/
  | macAddRMrfWithSub (m a : Reg) (xm ym xa ya : Quad)
  /-- `Rm = MRF + R3-0 * R7-4 (SSFR) , Ra = (R11-8 + R15-12)/2` (R374). -/
  | macAddRMrfWithAvg (m a : Reg) (xm ym xa ya : Quad)
  /-- `MRF = MRF - R3-0 * R7-4 (SSF) , Ra = R11-8 + R15-12` (R374). -/
  | macSubMrfWithAdd (a : Reg) (xm ym xa ya : Quad)
  /-- `MRF = MRF - R3-0 * R7-4 (SSF) , Ra = R11-8 - R15-12` (R374). -/
  | macSubMrfWithSub (a : Reg) (xm ym xa ya : Quad)
  /-- `MRF = MRF - R3-0 * R7-4 (SSF) , Ra = (R11-8 + R15-12)/2` (R374). -/
  | macSubMrfWithAvg (a : Reg) (xm ym xa ya : Quad)
  /-- `Rm = MRF - R3-0 * R7-4 (SSFR) , Ra = R11-8 + R15-12` (R374). -/
  | macSubRMrfWithAdd (m a : Reg) (xm ym xa ya : Quad)
  /-- `Rm = MRF - R3-0 * R7-4 (SSFR) , Ra = R11-8 - R15-12` (R374). -/
  | macSubRMrfWithSub (m a : Reg) (xm ym xa ya : Quad)
  /-- `Rm = MRF - R3-0 * R7-4 (SSFR) , Ra = (R11-8 + R15-12)/2` (R374). -/
  | macSubRMrfWithAvg (m a : Reg) (xm ym xa ya : Quad)
  /-- `Fm = F3-0 * F7-4 , Fa = F11-8 + F15-12` (R375). -/
  | fMulWithFAdd (m a : Reg) (xm ym xa ya : Quad)
  /-- `Fm = F3-0 * F7-4 , Fa = F11-8 - F15-12` (R375). -/
  | fMulWithFSub (m a : Reg) (xm ym xa ya : Quad)
  /-- `Fm = F3-0 * F7-4 , Fa = FLOAT R11-8 BY R15-12` (R375). -/
  | fMulWithFloatBy (m a : Reg) (xm ym xa ya : Quad)
  /-- `Fm = F3-0 * F7-4 , Ra = FIX F11-8 BY R15-12` (R375). -/
  | fMulWithFixBy (m a : Reg) (xm ym xa ya : Quad)
  /-- `Fm = F3-0 * F7-4 , Fa = (F11-8 + F15-12)/2` (R375). -/
  | fMulWithFAvg (m a : Reg) (xm ym xa ya : Quad)
  /-- `Fm = F3-0 * F7-4 , Fa = ABS F11-8` (R375). -/
  | fMulWithFAbs (m a : Reg) (xm ym xa : Quad)
  /-- `Fm = F3-0 * F7-4 , Fa = MAX (F11-8, F15-12)` (R375). -/
  | fMulWithFMax (m a : Reg) (xm ym xa ya : Quad)
  /-- `Fm = F3-0 * F7-4 , Fa = MIN (F11-8, F15-12)` (R375). -/
  | fMulWithFMin (m a : Reg) (xm ym xa ya : Quad)
  /-- `Rm = R3-0 * R7-4 (SSFR) , Ra = R11-8 + R15-12 , Rs = R11-8 - R15-12` (R376). -/
  | mulRWithDual (m a s : Reg) (xm ym xa ya : Quad)
  /-- `Fm = F3-0 * F7-4 , Fa = F11-8 + F15-12 , Fs = F11-8 - F15-12` (R376). -/
  | fMulWithDual (m a s : Reg) (xm ym xa ya : Quad)
deriving DecidableEq, Repr

/-- The instructions: one constructor per row of spec/opcode_table.json. -/
inductive Instr where
  /-- `Rn = Rx + Ry` (R173). -/
  | rAdd (n x y : Reg)
  /-- `Rn = Rx - Ry` (R174). -/
  | rSub (n x y : Reg)
  /-- `Rn = Rx + Ry + CI` (R175). -/
  | rAddCi (n x y : Reg)
  /-- `Rn = Rx - Ry + CI - 1` (R176). -/
  | rSubCi (n x y : Reg)
  /-- `Rn = (Rx + Ry)/2` (R177). -/
  | rAvg (n x y : Reg)
  /-- `COMP(Rx, Ry)` (R178). -/
  | rComp (x y : Reg)
  /-- `Rn = Rx + CI` (R179). -/
  | rPlusCi (n x : Reg)
  /-- `Rn = Rx + CI - 1` (R180). -/
  | rPlusCiLess1 (n x : Reg)
  /-- `Rn = Rx + 1` (R181). -/
  | rInc (n x : Reg)
  /-- `Rn = Rx - 1` (R182). -/
  | rDec (n x : Reg)
  /-- `Rn = -Rx` (R183). -/
  | rNeg (n x : Reg)
  /-- `Rn = ABS Rx` (R184). -/
  | rAbs (n x : Reg)
  /-- `Rn = PASS Rx` (R185). -/
  | rPass (n x : Reg)
  /-- `Rn = Rx AND Ry` (R186). -/
  | rAnd (n x y : Reg)
  /-- `Rn = Rx OR Ry` (R187). -/
  | rOr (n x y : Reg)
  /-- `Rn = Rx XOR Ry` (R188). -/
  | rXor (n x y : Reg)
  /-- `Rn = NOT Rx` (R189). -/
  | rNot (n x : Reg)
  /-- `Rn = MIN(Rx, Ry)` (R190). -/
  | rMin (n x y : Reg)
  /-- `Rn = MAX(Rx, Ry)` (R191). -/
  | rMax (n x y : Reg)
  /-- `Rn = CLIP Rx BY Ry` (R192). -/
  | rClip (n x y : Reg)
  /-- `Fn = Fx + Fy` (R220). -/
  | fAdd (n x y : Reg)
  /-- `Fn = Fx - Fy` (R221). -/
  | fSub (n x y : Reg)
  /-- `Fn = ABS (Fx + Fy)` (R222). -/
  | fAbsAdd (n x y : Reg)
  /-- `Fn = ABS (Fx - Fy)` (R223). -/
  | fAbsSub (n x y : Reg)
  /-- `Fn = (Fx + Fy)/2` (R224). -/
  | fAvg (n x y : Reg)
  /-- `COMP(Fx, Fy)` (R225). -/
  | fComp (x y : Reg)
  /-- `Fn = -Fx` (R226). -/
  | fNeg (n x : Reg)
  /-- `Fn = ABS Fx` (R227). -/
  | fAbs (n x : Reg)
  /-- `Fn = PASS Fx` (R228). -/
  | fPass (n x : Reg)
  /-- `Fn = RND Fx` (R229). -/
  | fRnd (n x : Reg)
  /-- `Fn = SCALB Fx BY Ry` (R230). -/
  | fScalb (n x y : Reg)
  /-- `Rn = MANT Fx` (R231). -/
  | fMant (n x : Reg)
  /-- `Rn = LOGB Fx` (R232). -/
  | fLogb (n x : Reg)
  /-- `Rn = FIX Fx BY Ry` (R233). -/
  | fFixBy (n x y : Reg)
  /-- `Rn = FIX Fx` (R234). -/
  | fFix (n x : Reg)
  /-- `Fn = FLOAT Rx BY Ry` (R235). -/
  | fFloatBy (n x y : Reg)
  /-- `Fn = FLOAT Rx` (R236). -/
  | fFloat (n x : Reg)
  /-- `Fn = RECIPS Fx` (R237). -/
  | fRecips (n x : Reg)
  /-- `Fn = RSQRTS Fx` (R238). -/
  | fRsqrts (n x : Reg)
  /-- `Fn = Fx COPYSIGN Fy` (R239). -/
  | fCopysign (n x y : Reg)
  /-- `Fn = MIN(Fx, Fy)` (R240). -/
  | fMin (n x y : Reg)
  /-- `Fn = MAX(Fx, Fy)` (R241). -/
  | fMax (n x y : Reg)
  /-- `Fn = CLIP Fx BY Fy` (R242). -/
  | fClip (n x y : Reg)
  /-- `Rn = Rx * Ry (mod)` (R270). -/
  | mulR (n x y : Reg) (md : MulMod)
  /-- `MRF = Rx * Ry (mod)` (R271). -/
  | mulMrf (x y : Reg) (md : MulMod)
  /-- `MRB = Rx * Ry (mod)` (R271). -/
  | mulMrb (x y : Reg) (md : MulMod)
  /-- `Rn = MRF + Rx * Ry (mod)` (R272). -/
  | macAddRMrf (n x y : Reg) (md : MulMod)
  /-- `Rn = MRB + Rx * Ry (mod)` (R272). -/
  | macAddRMrb (n x y : Reg) (md : MulMod)
  /-- `MRF = MRF + Rx * Ry (mod)` (R273). -/
  | macAddMrf (x y : Reg) (md : MulMod)
  /-- `MRB = MRB + Rx * Ry (mod)` (R273). -/
  | macAddMrb (x y : Reg) (md : MulMod)
  /-- `Rn = MRF - Rx * Ry (mod)` (R274). -/
  | macSubRMrf (n x y : Reg) (md : MulMod)
  /-- `Rn = MRB - Rx * Ry (mod)` (R274). -/
  | macSubRMrb (n x y : Reg) (md : MulMod)
  /-- `MRF = MRF - Rx * Ry (mod)` (R275). -/
  | macSubMrf (x y : Reg) (md : MulMod)
  /-- `MRB = MRB - Rx * Ry (mod)` (R275). -/
  | macSubMrb (x y : Reg) (md : MulMod)
  /-- `Rn = SAT MRF (s fmt)` (R276). -/
  | satRMrf (n : Reg) (md : SatMod)
  /-- `Rn = SAT MRB (s fmt)` (R276). -/
  | satRMrb (n : Reg) (md : SatMod)
  /-- `MRF = SAT MRF (s fmt)` (R277). -/
  | satMrf (md : SatMod)
  /-- `MRB = SAT MRB (s fmt)` (R277). -/
  | satMrb (md : SatMod)
  /-- `Rn = RND MRF (s F)` (R278). -/
  | rndRMrf (n : Reg) (sg : Sgn)
  /-- `Rn = RND MRB (s F)` (R278). -/
  | rndRMrb (n : Reg) (sg : Sgn)
  /-- `MRF = RND MRF (s F)` (R279). -/
  | rndMrf (sg : Sgn)
  /-- `MRB = RND MRB (s F)` (R279). -/
  | rndMrb (sg : Sgn)
  /-- `MRF = 0` (R280). -/
  | clrMrf
  /-- `MRB = 0` (R280). -/
  | clrMrb
  /-- `Rn = MR0F` (R290). -/
  | rdMr0f (n : Reg)
  /-- `Rn = MR1F` (R290). -/
  | rdMr1f (n : Reg)
  /-- `Rn = MR2F` (R290). -/
  | rdMr2f (n : Reg)
  /-- `Rn = MR0B` (R290). -/
  | rdMr0b (n : Reg)
  /-- `Rn = MR1B` (R290). -/
  | rdMr1b (n : Reg)
  /-- `Rn = MR2B` (R290). -/
  | rdMr2b (n : Reg)
  /-- `MR0F = Rn` (R291). -/
  | wrMr0f (n : Reg)
  /-- `MR1F = Rn` (R291). -/
  | wrMr1f (n : Reg)
  /-- `MR2F = Rn` (R291). -/
  | wrMr2f (n : Reg)
  /-- `MR0B = Rn` (R291). -/
  | wrMr0b (n : Reg)
  /-- `MR1B = Rn` (R291). -/
  | wrMr1b (n : Reg)
  /-- `MR2B = Rn` (R291). -/
  | wrMr2b (n : Reg)
  /-- `Fn = Fx * Fy` (R292). -/
  | fMul (n x y : Reg)
  /-- `Rn = LSHIFT Rx BY Ry` (R313). -/
  | lshift (n x y : Reg)
  /-- `Rn = LSHIFT Rx BY <data8>` (R313). -/
  | lshiftImm (n x : Reg) (d : BitVec 8)
  /-- `Rn = Rn OR LSHIFT Rx BY Ry` (R314). -/
  | orLshift (n x y : Reg)
  /-- `Rn = Rn OR LSHIFT Rx BY <data8>` (R314). -/
  | orLshiftImm (n x : Reg) (d : BitVec 8)
  /-- `Rn = ASHIFT Rx BY Ry` (R315). -/
  | ashift (n x y : Reg)
  /-- `Rn = ASHIFT Rx BY <data8>` (R315). -/
  | ashiftImm (n x : Reg) (d : BitVec 8)
  /-- `Rn = Rn OR ASHIFT Rx BY Ry` (R316). -/
  | orAshift (n x y : Reg)
  /-- `Rn = Rn OR ASHIFT Rx BY <data8>` (R316). -/
  | orAshiftImm (n x : Reg) (d : BitVec 8)
  /-- `Rn = ROT Rx BY Ry` (R317). -/
  | rot (n x y : Reg)
  /-- `Rn = ROT Rx BY <data8>` (R317). -/
  | rotImm (n x : Reg) (d : BitVec 8)
  /-- `Rn = BCLR Rx BY Ry` (R318). -/
  | bclr (n x y : Reg)
  /-- `Rn = BCLR Rx BY <data8>` (R318). -/
  | bclrImm (n x : Reg) (d : BitVec 8)
  /-- `Rn = BSET Rx BY Ry` (R319). -/
  | bset (n x y : Reg)
  /-- `Rn = BSET Rx BY <data8>` (R319). -/
  | bsetImm (n x : Reg) (d : BitVec 8)
  /-- `Rn = BTGL Rx BY Ry` (R320). -/
  | btgl (n x y : Reg)
  /-- `Rn = BTGL Rx BY <data8>` (R320). -/
  | btglImm (n x : Reg) (d : BitVec 8)
  /-- `BTST Rx BY Ry` (R321). -/
  | btst (x y : Reg)
  /-- `BTST Rx BY <data8>` (R321). -/
  | btstImm (x : Reg) (d : BitVec 8)
  /-- `Rn = FDEP Rx BY Ry` (R322). -/
  | fdep (n x y : Reg)
  /-- `Rn = FDEP Rx BY <bit6>:<len6>` (R322). -/
  | fdepImm (n x : Reg) (bit len : BitVec 6)
  /-- `Rn = Rn OR FDEP Rx BY Ry` (R323). -/
  | orFdep (n x y : Reg)
  /-- `Rn = Rn OR FDEP Rx BY <bit6>:<len6>` (R323). -/
  | orFdepImm (n x : Reg) (bit len : BitVec 6)
  /-- `Rn = FDEP Rx BY Ry (SE)` (R324). -/
  | fdepSe (n x y : Reg)
  /-- `Rn = FDEP Rx BY <bit6>:<len6> (SE)` (R324). -/
  | fdepSeImm (n x : Reg) (bit len : BitVec 6)
  /-- `Rn = Rn OR FDEP Rx BY Ry (SE)` (R325). -/
  | orFdepSe (n x y : Reg)
  /-- `Rn = Rn OR FDEP Rx BY <bit6>:<len6> (SE)` (R325). -/
  | orFdepSeImm (n x : Reg) (bit len : BitVec 6)
  /-- `Rn = FEXT Rx BY Ry` (R326). -/
  | fext (n x y : Reg)
  /-- `Rn = FEXT Rx BY <bit6>:<len6>` (R326). -/
  | fextImm (n x : Reg) (bit len : BitVec 6)
  /-- `Rn = FEXT Rx BY Ry (SE)` (R327). -/
  | fextSe (n x y : Reg)
  /-- `Rn = FEXT Rx BY <bit6>:<len6> (SE)` (R327). -/
  | fextSeImm (n x : Reg) (bit len : BitVec 6)
  /-- `Rn = EXP Rx` (R328). -/
  | expo (n x : Reg)
  /-- `Rn = EXP Rx (EX)` (R329). -/
  | expoEx (n x : Reg)
  /-- `Rn = LEFTZ Rx` (R330). -/
  | leftz (n x : Reg)
  /-- `Rn = LEFTO Rx` (R331). -/
  | lefto (n x : Reg)
  /-- `Rn = FPACK Fx` (R332). -/
  | fpack (n x : Reg)
  /-- `Fn = FUNPACK Rx` (R333). -/
  | funpack (n x : Reg)
  /-- `Ra = Rx + Ry , Rs = Rx - Ry` (R371). -/
  | dualAddSub (a s x y : Reg)
  /-- `Fa = Fx + Fy , Fs = Fx - Fy` (R372). -/
  | dualFAddSub (a s x y : Reg)
  /-- `Rm = R3-0 * R7-4 (SSFR) , Ra = R11-8 + R15-12` (R374). -/
  | mulRWithAdd (m a : Reg) (xm ym xa ya : Quad)
  /-- `Rm = R3-0 * R7-4 (SSFR) , Ra = R11-8 - R15-12` (R374). -/
  | mulRWithSub (m a : Reg) (xm ym xa ya : Quad)
  /-- `Rm = R3-0 * R7-4 (SSFR) , Ra = (R11-8 + R15-12)/2` (R374). -/
  | mulRWithAvg (m a : Reg) (xm ym xa ya : Quad)
  /-- `MRF = MRF + R3-0 * R7-4 (SSF) , Ra = R11-8 + R15-12` (R374). -/
  | macAddMrfWithAdd (a : Reg) (xm ym xa ya : Quad)
  /-- `MRF = MRF + R3-0 * R7-4 (SSF) , Ra = R11-8 - R15-12` (R374). -/
  | macAddMrfWithSub (a : Reg) (xm ym xa ya : Quad)
  /-- `MRF = MRF + R3-0 * R7-4 (SSF) , Ra = (R11-8 + R15-12)/2` (R374). -/
  | macAddMrfWithAvg (a : Reg) (xm ym xa ya : Quad)
  /-- `Rm = MRF + R3-0 * R7-4 (SSFR) , Ra = R11-8 + R15-12` (R374). -/
  | macAddRMrfWithAdd (m a : Reg) (xm ym xa ya : Quad)
  /-- `Rm = MRF + R3-0 * R7-4 (SSFR) , Ra = R11-8 - R15-12` (R374). -/
  | macAddRMrfWithSub (m a : Reg) (xm ym xa ya : Quad)
  /-- `Rm = MRF + R3-0 * R7-4 (SSFR) , Ra = (R11-8 + R15-12)/2` (R374). -/
  | macAddRMrfWithAvg (m a : Reg) (xm ym xa ya : Quad)
  /-- `MRF = MRF - R3-0 * R7-4 (SSF) , Ra = R11-8 + R15-12` (R374). -/
  | macSubMrfWithAdd (a : Reg) (xm ym xa ya : Quad)
  /-- `MRF = MRF - R3-0 * R7-4 (SSF) , Ra = R11-8 - R15-12` (R374). -/
  | macSubMrfWithSub (a : Reg) (xm ym xa ya : Quad)
  /-- `MRF = MRF - R3-0 * R7-4 (SSF) , Ra = (R11-8 + R15-12)/2` (R374). -/
  | macSubMrfWithAvg (a : Reg) (xm ym xa ya : Quad)
  /-- `Rm = MRF - R3-0 * R7-4 (SSFR) , Ra = R11-8 + R15-12` (R374). -/
  | macSubRMrfWithAdd (m a : Reg) (xm ym xa ya : Quad)
  /-- `Rm = MRF - R3-0 * R7-4 (SSFR) , Ra = R11-8 - R15-12` (R374). -/
  | macSubRMrfWithSub (m a : Reg) (xm ym xa ya : Quad)
  /-- `Rm = MRF - R3-0 * R7-4 (SSFR) , Ra = (R11-8 + R15-12)/2` (R374). -/
  | macSubRMrfWithAvg (m a : Reg) (xm ym xa ya : Quad)
  /-- `Fm = F3-0 * F7-4 , Fa = F11-8 + F15-12` (R375). -/
  | fMulWithFAdd (m a : Reg) (xm ym xa ya : Quad)
  /-- `Fm = F3-0 * F7-4 , Fa = F11-8 - F15-12` (R375). -/
  | fMulWithFSub (m a : Reg) (xm ym xa ya : Quad)
  /-- `Fm = F3-0 * F7-4 , Fa = FLOAT R11-8 BY R15-12` (R375). -/
  | fMulWithFloatBy (m a : Reg) (xm ym xa ya : Quad)
  /-- `Fm = F3-0 * F7-4 , Ra = FIX F11-8 BY R15-12` (R375). -/
  | fMulWithFixBy (m a : Reg) (xm ym xa ya : Quad)
  /-- `Fm = F3-0 * F7-4 , Fa = (F11-8 + F15-12)/2` (R375). -/
  | fMulWithFAvg (m a : Reg) (xm ym xa ya : Quad)
  /-- `Fm = F3-0 * F7-4 , Fa = ABS F11-8` (R375). -/
  | fMulWithFAbs (m a : Reg) (xm ym xa : Quad)
  /-- `Fm = F3-0 * F7-4 , Fa = MAX (F11-8, F15-12)` (R375). -/
  | fMulWithFMax (m a : Reg) (xm ym xa ya : Quad)
  /-- `Fm = F3-0 * F7-4 , Fa = MIN (F11-8, F15-12)` (R375). -/
  | fMulWithFMin (m a : Reg) (xm ym xa ya : Quad)
  /-- `Rm = R3-0 * R7-4 (SSFR) , Ra = R11-8 + R15-12 , Rs = R11-8 - R15-12` (R376). -/
  | mulRWithDual (m a s : Reg) (xm ym xa ya : Quad)
  /-- `Fm = F3-0 * F7-4 , Fa = F11-8 + F15-12 , Fs = F11-8 - F15-12` (R376). -/
  | fMulWithDual (m a s : Reg) (xm ym xa ya : Quad)
  /-- `[IF cond] [compute ,] ureg1 = ureg2` (R391). -/
  | uregMove (cond : Cond) (c : Option Compute) (dst src : Ureg)
  /-- `ureg = <data32>` (R392). -/
  | loadImm (dst : Ureg) (v : W32)
  /-- `[IF cond] [compute ,] ureg = DM(Ia, Mb)` (R393). -/
  | ldDmPost (cond : Cond) (c : Option Compute) (dst : Ureg) (i m : Fin 8)
  /-- `[IF cond] [compute ,] DM(Ia, Mb) = ureg` (R393). -/
  | stDmPost (cond : Cond) (c : Option Compute) (i m : Fin 8) (src : Ureg)
  /-- `[IF cond] [compute ,] ureg = PM(Ic, Md)` (R394). -/
  | ldPmPost (cond : Cond) (c : Option Compute) (dst : Ureg) (i m : Fin 8)
  /-- `[IF cond] [compute ,] PM(Ic, Md) = ureg` (R394). -/
  | stPmPost (cond : Cond) (c : Option Compute) (i m : Fin 8) (src : Ureg)
  /-- `[IF cond] [compute ,] ureg = DM(Mb, Ia)` (R395). -/
  | ldDmPre (cond : Cond) (c : Option Compute) (dst : Ureg) (m i : Fin 8)
  /-- `[IF cond] [compute ,] DM(Mb, Ia) = ureg` (R395). -/
  | stDmPre (cond : Cond) (c : Option Compute) (m i : Fin 8) (src : Ureg)
  /-- `[IF cond] [compute ,] ureg = PM(Md, Ic)` (R395). -/
  | ldPmPre (cond : Cond) (c : Option Compute) (dst : Ureg) (m i : Fin 8)
  /-- `[IF cond] [compute ,] PM(Md, Ic) = ureg` (R395). -/
  | stPmPre (cond : Cond) (c : Option Compute) (m i : Fin 8) (src : Ureg)
  /-- `ureg = DM(<addr32>)` (R396). -/
  | ldDmAbs (dst : Ureg) (addr : W32)
  /-- `DM(<addr32>) = ureg` (R396). -/
  | stDmAbs (addr : W32) (src : Ureg)
  /-- `ureg = PM(<addr24>)` (R396). -/
  | ldPmAbs (dst : Ureg) (addr : A24)
  /-- `PM(<addr24>) = ureg` (R396). -/
  | stPmAbs (addr : A24) (src : Ureg)
  /-- `[compute ,] Rn|Fn = DM(Ia, Mb) , Rm|Fm = PM(Ic, Md)  (each side may instead be a store)` (R397). -/
  | dualMove (cond : Cond) (c : Option Compute) (dm pm : DualSide)
  /-- `compute` (R397): a computation alone with an IF condition. -/
  | compute (cond : Cond) (c : Compute)
  /-- `[IF cond] JUMP <addr24> [(DB)] [(LA)] [(CI)]` (R431): without (LA) and (CI), which are `jumpLa` and `jumpCi`. -/
  | jumpAbs (cond : Cond) (addr : A24) (db : Bool) (c : Option Compute)
  /-- `[IF cond] JUMP (PC, <reladdr>) [(DB)] [(LA)] [(CI)]` (R432): without (LA) and (CI). -/
  | jumpRel (cond : Cond) (off : A24) (db : Bool) (c : Option Compute)
  /-- `[IF cond] JUMP (Md, Ic) [(DB)] [(LA)] [(CI)]` (R433): without (LA) and (CI). -/
  | jumpInd (cond : Cond) (m i : Fin 8) (db : Bool) (c : Option Compute)
  /-- `[IF cond] CALL <addr24> [(DB)]` (R434). -/
  | callAbs (cond : Cond) (addr : A24) (db : Bool) (c : Option Compute)
  /-- `[IF cond] CALL (PC, <reladdr>) [(DB)]` (R434). -/
  | callRel (cond : Cond) (off : A24) (db : Bool) (c : Option Compute)
  /-- `[IF cond] CALL (Md, Ic) [(DB)]` (R434). -/
  | callInd (cond : Cond) (m i : Fin 8) (db : Bool) (c : Option Compute)
  /-- `[IF cond] RTS [(DB)]` (R435). -/
  | rts (cond : Cond) (db : Bool) (c : Option Compute)
  /-- `[IF cond] RTS [(DB)] (LR)` (R437). -/
  | rtsLr (cond : Cond) (db : Bool) (c : Option Compute)
  /-- `[IF cond] RTI [(DB)]` (R436). -/
  | rti (cond : Cond) (db : Bool) (c : Option Compute)
  /-- `JUMP ... (LA) modifier` (R438): a JUMP of any of the three targets with (LA), with or without (CI). -/
  | jumpLa (cond : Cond) (t : Target) (db ci : Bool) (c : Option Compute)
  /-- `JUMP ... (CI) modifier` (R439): a JUMP of any of the three targets with (CI) and without (LA). -/
  | jumpCi (cond : Cond) (t : Target) (db : Bool) (c : Option Compute)
  /-- `DO <addr24> UNTIL term` (R441). -/
  | doAbs (addr : A24) (term : Cond)
  /-- `DO (PC, <reladdr>) UNTIL term` (R441). -/
  | doRel (off : A24) (term : Cond)
  /-- `LCNTR = <data> , DO <addr24> UNTIL LCE` (R442), or UNTIL another `term` (R146). -/
  | doCountImm (v : W32) (d : DoUntil)
  /-- `LCNTR = ureg , DO <addr24> UNTIL LCE` (R442), or UNTIL another `term` (R146). -/
  | doCountUreg (src : Ureg) (d : DoUntil)
  /-- `BIT SET sreg <data32>` (R455). -/
  | bitSet (r : Sreg) (v : W32)
  /-- `BIT CLR sreg <data32>` (R456). -/
  | bitClr (r : Sreg) (v : W32)
  /-- `BIT TGL sreg <data32>` (R457). -/
  | bitTgl (r : Sreg) (v : W32)
  /-- `BIT TST sreg <data32>` (R458). -/
  | bitTst (r : Sreg) (v : W32)
  /-- `BIT XOR sreg <data32>` (R459). -/
  | bitXor (r : Sreg) (v : W32)
  /-- `PUSH LOOP` (R460): with the stack operations written beside it. -/
  | pushLoop (sts pcs : StackOp)
  /-- `POP LOOP` (R461): with the stack operations written beside it. -/
  | popLoop (sts pcs : StackOp)
  /-- `PUSH STS` (R462): with the PC stack operation written beside it. -/
  | pushSts (pcs : StackOp)
  /-- `POP STS` (R463): with the PC stack operation written beside it. -/
  | popSts (pcs : StackOp)
  /-- `PUSH PCSTK` (R464). -/
  | pushPcstk
  /-- `POP PCSTK` (R465). -/
  | popPcstk
  /-- `IDLE16` (R466). -/
  | idle16
  /-- `IDLE` (R467). -/
  | idle
  /-- `NOP` (R468). -/
  | nop
deriving DecidableEq, Repr

/-- A computation as an instruction of its own. -/
def Instr.ofCompute : Compute → Instr
  | .rAdd n x y => .rAdd n x y
  | .rSub n x y => .rSub n x y
  | .rAddCi n x y => .rAddCi n x y
  | .rSubCi n x y => .rSubCi n x y
  | .rAvg n x y => .rAvg n x y
  | .rComp x y => .rComp x y
  | .rPlusCi n x => .rPlusCi n x
  | .rPlusCiLess1 n x => .rPlusCiLess1 n x
  | .rInc n x => .rInc n x
  | .rDec n x => .rDec n x
  | .rNeg n x => .rNeg n x
  | .rAbs n x => .rAbs n x
  | .rPass n x => .rPass n x
  | .rAnd n x y => .rAnd n x y
  | .rOr n x y => .rOr n x y
  | .rXor n x y => .rXor n x y
  | .rNot n x => .rNot n x
  | .rMin n x y => .rMin n x y
  | .rMax n x y => .rMax n x y
  | .rClip n x y => .rClip n x y
  | .fAdd n x y => .fAdd n x y
  | .fSub n x y => .fSub n x y
  | .fAbsAdd n x y => .fAbsAdd n x y
  | .fAbsSub n x y => .fAbsSub n x y
  | .fAvg n x y => .fAvg n x y
  | .fComp x y => .fComp x y
  | .fNeg n x => .fNeg n x
  | .fAbs n x => .fAbs n x
  | .fPass n x => .fPass n x
  | .fRnd n x => .fRnd n x
  | .fScalb n x y => .fScalb n x y
  | .fMant n x => .fMant n x
  | .fLogb n x => .fLogb n x
  | .fFixBy n x y => .fFixBy n x y
  | .fFix n x => .fFix n x
  | .fFloatBy n x y => .fFloatBy n x y
  | .fFloat n x => .fFloat n x
  | .fRecips n x => .fRecips n x
  | .fRsqrts n x => .fRsqrts n x
  | .fCopysign n x y => .fCopysign n x y
  | .fMin n x y => .fMin n x y
  | .fMax n x y => .fMax n x y
  | .fClip n x y => .fClip n x y
  | .mulR n x y md => .mulR n x y md
  | .mulMrf x y md => .mulMrf x y md
  | .mulMrb x y md => .mulMrb x y md
  | .macAddRMrf n x y md => .macAddRMrf n x y md
  | .macAddRMrb n x y md => .macAddRMrb n x y md
  | .macAddMrf x y md => .macAddMrf x y md
  | .macAddMrb x y md => .macAddMrb x y md
  | .macSubRMrf n x y md => .macSubRMrf n x y md
  | .macSubRMrb n x y md => .macSubRMrb n x y md
  | .macSubMrf x y md => .macSubMrf x y md
  | .macSubMrb x y md => .macSubMrb x y md
  | .satRMrf n md => .satRMrf n md
  | .satRMrb n md => .satRMrb n md
  | .satMrf md => .satMrf md
  | .satMrb md => .satMrb md
  | .rndRMrf n sg => .rndRMrf n sg
  | .rndRMrb n sg => .rndRMrb n sg
  | .rndMrf sg => .rndMrf sg
  | .rndMrb sg => .rndMrb sg
  | .clrMrf => .clrMrf
  | .clrMrb => .clrMrb
  | .rdMr0f n => .rdMr0f n
  | .rdMr1f n => .rdMr1f n
  | .rdMr2f n => .rdMr2f n
  | .rdMr0b n => .rdMr0b n
  | .rdMr1b n => .rdMr1b n
  | .rdMr2b n => .rdMr2b n
  | .wrMr0f n => .wrMr0f n
  | .wrMr1f n => .wrMr1f n
  | .wrMr2f n => .wrMr2f n
  | .wrMr0b n => .wrMr0b n
  | .wrMr1b n => .wrMr1b n
  | .wrMr2b n => .wrMr2b n
  | .fMul n x y => .fMul n x y
  | .lshift n x y => .lshift n x y
  | .lshiftImm n x d => .lshiftImm n x d
  | .orLshift n x y => .orLshift n x y
  | .orLshiftImm n x d => .orLshiftImm n x d
  | .ashift n x y => .ashift n x y
  | .ashiftImm n x d => .ashiftImm n x d
  | .orAshift n x y => .orAshift n x y
  | .orAshiftImm n x d => .orAshiftImm n x d
  | .rot n x y => .rot n x y
  | .rotImm n x d => .rotImm n x d
  | .bclr n x y => .bclr n x y
  | .bclrImm n x d => .bclrImm n x d
  | .bset n x y => .bset n x y
  | .bsetImm n x d => .bsetImm n x d
  | .btgl n x y => .btgl n x y
  | .btglImm n x d => .btglImm n x d
  | .btst x y => .btst x y
  | .btstImm x d => .btstImm x d
  | .fdep n x y => .fdep n x y
  | .fdepImm n x bit len => .fdepImm n x bit len
  | .orFdep n x y => .orFdep n x y
  | .orFdepImm n x bit len => .orFdepImm n x bit len
  | .fdepSe n x y => .fdepSe n x y
  | .fdepSeImm n x bit len => .fdepSeImm n x bit len
  | .orFdepSe n x y => .orFdepSe n x y
  | .orFdepSeImm n x bit len => .orFdepSeImm n x bit len
  | .fext n x y => .fext n x y
  | .fextImm n x bit len => .fextImm n x bit len
  | .fextSe n x y => .fextSe n x y
  | .fextSeImm n x bit len => .fextSeImm n x bit len
  | .expo n x => .expo n x
  | .expoEx n x => .expoEx n x
  | .leftz n x => .leftz n x
  | .lefto n x => .lefto n x
  | .fpack n x => .fpack n x
  | .funpack n x => .funpack n x
  | .dualAddSub a s x y => .dualAddSub a s x y
  | .dualFAddSub a s x y => .dualFAddSub a s x y
  | .mulRWithAdd m a xm ym xa ya => .mulRWithAdd m a xm ym xa ya
  | .mulRWithSub m a xm ym xa ya => .mulRWithSub m a xm ym xa ya
  | .mulRWithAvg m a xm ym xa ya => .mulRWithAvg m a xm ym xa ya
  | .macAddMrfWithAdd a xm ym xa ya => .macAddMrfWithAdd a xm ym xa ya
  | .macAddMrfWithSub a xm ym xa ya => .macAddMrfWithSub a xm ym xa ya
  | .macAddMrfWithAvg a xm ym xa ya => .macAddMrfWithAvg a xm ym xa ya
  | .macAddRMrfWithAdd m a xm ym xa ya => .macAddRMrfWithAdd m a xm ym xa ya
  | .macAddRMrfWithSub m a xm ym xa ya => .macAddRMrfWithSub m a xm ym xa ya
  | .macAddRMrfWithAvg m a xm ym xa ya => .macAddRMrfWithAvg m a xm ym xa ya
  | .macSubMrfWithAdd a xm ym xa ya => .macSubMrfWithAdd a xm ym xa ya
  | .macSubMrfWithSub a xm ym xa ya => .macSubMrfWithSub a xm ym xa ya
  | .macSubMrfWithAvg a xm ym xa ya => .macSubMrfWithAvg a xm ym xa ya
  | .macSubRMrfWithAdd m a xm ym xa ya => .macSubRMrfWithAdd m a xm ym xa ya
  | .macSubRMrfWithSub m a xm ym xa ya => .macSubRMrfWithSub m a xm ym xa ya
  | .macSubRMrfWithAvg m a xm ym xa ya => .macSubRMrfWithAvg m a xm ym xa ya
  | .fMulWithFAdd m a xm ym xa ya => .fMulWithFAdd m a xm ym xa ya
  | .fMulWithFSub m a xm ym xa ya => .fMulWithFSub m a xm ym xa ya
  | .fMulWithFloatBy m a xm ym xa ya => .fMulWithFloatBy m a xm ym xa ya
  | .fMulWithFixBy m a xm ym xa ya => .fMulWithFixBy m a xm ym xa ya
  | .fMulWithFAvg m a xm ym xa ya => .fMulWithFAvg m a xm ym xa ya
  | .fMulWithFAbs m a xm ym xa => .fMulWithFAbs m a xm ym xa
  | .fMulWithFMax m a xm ym xa ya => .fMulWithFMax m a xm ym xa ya
  | .fMulWithFMin m a xm ym xa ya => .fMulWithFMin m a xm ym xa ya
  | .mulRWithDual m a s xm ym xa ya => .mulRWithDual m a s xm ym xa ya
  | .fMulWithDual m a s xm ym xa ya => .fMulWithDual m a s xm ym xa ya

end Sys2Proof
end

