-- ==== Sys2Proof/WellFormed.lean ====
section
/-! DEFINITION. The well-formed instructions: the operand restrictions the spec states, and the ranges the model's own
48-bit word has room for (log entry 1). -/

namespace Sys2Proof

/-- FADDR, DADDR and PC are read only (R32, R43): no move names them as a destination (R391). -/
def Ureg.writable : Ureg → Bool
  | .faddr => false
  | .daddr => false
  | .pc => false
  | _ => true

/-- The two results of a dual add/subtract go to different registers (R371, U24). -/
def Compute.wf : Compute → Bool
  | .dualAddSub a s _ _ => a != s
  | .dualFAddSub a s _ _ => a != s
  | .mulRWithDual _ a s _ _ _ _ => a != s
  | .fMulWithDual _ a s _ _ _ _ => a != s
  | _ => true

/-- The computation of a slot is well formed. -/
def slotWf : Option Compute → Bool
  | none => true
  | some c => c.wf

/-- The register is the index register I`n` of DAG1, or the base register whose write loads it (R400). -/
def Ureg.isIndex1 (u : Ureg) (n : Fin 8) : Bool := u == .dag1 .i n || u == .dag1 .b n

/-- The same in DAG2. -/
def Ureg.isIndex2 (u : Ureg) (n : Fin 8) : Bool := u == .dag2 .i n || u == .dag2 .b n

/-- A 24-bit offset that 6 bits hold as a twos-complement number (R143). -/
def fitsOffset6 (off : A24) : Bool := (off.extractLsb' 0 6).signExtend 24 == off

/-- The computation and offset of a PC-relative branch fit the word (R143: 24 bits, or 6 beside a computation). -/
def relWf (off : A24) (c : Option Compute) : Bool := slotWf c && (c.isNone || fitsOffset6 off)

/-- The computation beside a jump of the given target. -/
def targetWf : Target → Option Compute → Bool
  | .abs _, c => c.isNone
  | .rel off, c => relWf off c
  | .ind _ _, c => slotWf c

/-- The well-formed instructions. -/
def Instr.wf : Instr → Bool
  | .rAdd _ _ _ => true
  | .rSub _ _ _ => true
  | .rAddCi _ _ _ => true
  | .rSubCi _ _ _ => true
  | .rAvg _ _ _ => true
  | .rComp _ _ => true
  | .rPlusCi _ _ => true
  | .rPlusCiLess1 _ _ => true
  | .rInc _ _ => true
  | .rDec _ _ => true
  | .rNeg _ _ => true
  | .rAbs _ _ => true
  | .rPass _ _ => true
  | .rAnd _ _ _ => true
  | .rOr _ _ _ => true
  | .rXor _ _ _ => true
  | .rNot _ _ => true
  | .rMin _ _ _ => true
  | .rMax _ _ _ => true
  | .rClip _ _ _ => true
  | .fAdd _ _ _ => true
  | .fSub _ _ _ => true
  | .fAbsAdd _ _ _ => true
  | .fAbsSub _ _ _ => true
  | .fAvg _ _ _ => true
  | .fComp _ _ => true
  | .fNeg _ _ => true
  | .fAbs _ _ => true
  | .fPass _ _ => true
  | .fRnd _ _ => true
  | .fScalb _ _ _ => true
  | .fMant _ _ => true
  | .fLogb _ _ => true
  | .fFixBy _ _ _ => true
  | .fFix _ _ => true
  | .fFloatBy _ _ _ => true
  | .fFloat _ _ => true
  | .fRecips _ _ => true
  | .fRsqrts _ _ => true
  | .fCopysign _ _ _ => true
  | .fMin _ _ _ => true
  | .fMax _ _ _ => true
  | .fClip _ _ _ => true
  | .mulR _ _ _ _ => true
  | .mulMrf _ _ _ => true
  | .mulMrb _ _ _ => true
  | .macAddRMrf _ _ _ _ => true
  | .macAddRMrb _ _ _ _ => true
  | .macAddMrf _ _ _ => true
  | .macAddMrb _ _ _ => true
  | .macSubRMrf _ _ _ _ => true
  | .macSubRMrb _ _ _ _ => true
  | .macSubMrf _ _ _ => true
  | .macSubMrb _ _ _ => true
  | .satRMrf _ _ => true
  | .satRMrb _ _ => true
  | .satMrf _ => true
  | .satMrb _ => true
  | .rndRMrf _ _ => true
  | .rndRMrb _ _ => true
  | .rndMrf _ => true
  | .rndMrb _ => true
  | .clrMrf => true
  | .clrMrb => true
  | .rdMr0f _ => true
  | .rdMr1f _ => true
  | .rdMr2f _ => true
  | .rdMr0b _ => true
  | .rdMr1b _ => true
  | .rdMr2b _ => true
  | .wrMr0f _ => true
  | .wrMr1f _ => true
  | .wrMr2f _ => true
  | .wrMr0b _ => true
  | .wrMr1b _ => true
  | .wrMr2b _ => true
  | .fMul _ _ _ => true
  | .lshift _ _ _ => true
  | .lshiftImm _ _ _ => true
  | .orLshift _ _ _ => true
  | .orLshiftImm _ _ _ => true
  | .ashift _ _ _ => true
  | .ashiftImm _ _ _ => true
  | .orAshift _ _ _ => true
  | .orAshiftImm _ _ _ => true
  | .rot _ _ _ => true
  | .rotImm _ _ _ => true
  | .bclr _ _ _ => true
  | .bclrImm _ _ _ => true
  | .bset _ _ _ => true
  | .bsetImm _ _ _ => true
  | .btgl _ _ _ => true
  | .btglImm _ _ _ => true
  | .btst _ _ => true
  | .btstImm _ _ => true
  | .fdep _ _ _ => true
  | .fdepImm _ _ _ _ => true
  | .orFdep _ _ _ => true
  | .orFdepImm _ _ _ _ => true
  | .fdepSe _ _ _ => true
  | .fdepSeImm _ _ _ _ => true
  | .orFdepSe _ _ _ => true
  | .orFdepSeImm _ _ _ _ => true
  | .fext _ _ _ => true
  | .fextImm _ _ _ _ => true
  | .fextSe _ _ _ => true
  | .fextSeImm _ _ _ _ => true
  | .expo _ _ => true
  | .expoEx _ _ => true
  | .leftz _ _ => true
  | .lefto _ _ => true
  | .fpack _ _ => true
  | .funpack _ _ => true
  | .dualAddSub a s _ _ => a != s
  | .dualFAddSub a s _ _ => a != s
  | .mulRWithAdd _ _ _ _ _ _ => true
  | .mulRWithSub _ _ _ _ _ _ => true
  | .mulRWithAvg _ _ _ _ _ _ => true
  | .macAddMrfWithAdd _ _ _ _ _ => true
  | .macAddMrfWithSub _ _ _ _ _ => true
  | .macAddMrfWithAvg _ _ _ _ _ => true
  | .macAddRMrfWithAdd _ _ _ _ _ _ => true
  | .macAddRMrfWithSub _ _ _ _ _ _ => true
  | .macAddRMrfWithAvg _ _ _ _ _ _ => true
  | .macSubMrfWithAdd _ _ _ _ _ => true
  | .macSubMrfWithSub _ _ _ _ _ => true
  | .macSubMrfWithAvg _ _ _ _ _ => true
  | .macSubRMrfWithAdd _ _ _ _ _ _ => true
  | .macSubRMrfWithSub _ _ _ _ _ _ => true
  | .macSubRMrfWithAvg _ _ _ _ _ _ => true
  | .fMulWithFAdd _ _ _ _ _ _ => true
  | .fMulWithFSub _ _ _ _ _ _ => true
  | .fMulWithFloatBy _ _ _ _ _ _ => true
  | .fMulWithFixBy _ _ _ _ _ _ => true
  | .fMulWithFAvg _ _ _ _ _ _ => true
  | .fMulWithFAbs _ _ _ _ _ => true
  | .fMulWithFMax _ _ _ _ _ _ => true
  | .fMulWithFMin _ _ _ _ _ _ => true
  | .mulRWithDual _ a s _ _ _ _ => a != s
  | .fMulWithDual _ a s _ _ _ _ => a != s
  | .uregMove _ c dst _ => slotWf c && dst.writable
  | .loadImm dst _ => dst.writable
  | .ldDmPost _ c dst i _ => slotWf c && dst.writable && !dst.isIndex1 i
  | .stDmPost _ c _ _ _ => slotWf c
  | .ldPmPost _ c dst i _ => slotWf c && dst.writable && !dst.isIndex2 i
  | .stPmPost _ c _ _ _ => slotWf c
  | .ldDmPre _ c dst _ _ => slotWf c && dst.writable
  | .stDmPre _ c _ _ _ => slotWf c
  | .ldPmPre _ c dst _ _ => slotWf c && dst.writable
  | .stPmPre _ c _ _ _ => slotWf c
  | .ldDmAbs dst _ => dst.writable
  | .stDmAbs _ _ => true
  | .ldPmAbs dst _ => dst.writable
  | .stPmAbs _ _ => true
  | .dualMove cond c _ _ => cond == .tru && slotWf c
  | .compute _ c => c.wf
  | .jumpAbs _ _ _ c => c.isNone
  | .jumpRel _ off _ c => relWf off c
  | .jumpInd _ _ _ _ c => slotWf c
  | .callAbs _ _ _ c => c.isNone
  | .callRel _ off _ c => relWf off c
  | .callInd _ _ _ _ c => slotWf c
  | .rts _ _ c => slotWf c
  | .rtsLr _ _ c => slotWf c
  | .rti _ _ c => slotWf c
  | .jumpLa _ t _ _ c => targetWf t c
  | .jumpCi _ t _ c => targetWf t c
  | .doAbs _ _ => true
  | .doRel _ _ => true
  | .doCountImm v d => decide (v.toNat < 2 ^ 16) && d.term == .lce
  | .doCountUreg _ _ => true
  | .bitSet _ _ => true
  | .bitClr _ _ => true
  | .bitTgl _ _ => true
  | .bitTst _ _ => true
  | .bitXor _ _ => true
  | .pushLoop _ _ => true
  | .popLoop _ _ => true
  | .pushSts _ => true
  | .popSts _ => true
  | .pushPcstk => true
  | .popPcstk => true
  | .idle16 => true
  | .idle => true
  | .nop => true

end Sys2Proof
end

