-- ==== Sys2Proof/Decode.lean ====
section
/-! DEFINITION. The decoder and, after it, the encoder.

No source gives the encoding of any instruction (R141) and the spec leaves `Decode : Bits48 -> Option Instr` open (D1).
The word layout here is the MODEL'S OWN (DESIGN CHOICE, unsafe, log entry 1): it stands for that open parameter and
claims nothing about the chip. It meets what R142 requires: a function of the 48-bit word alone, a 5-bit condition field
holding the codes of R421, a 24-bit address in a direct branch, 4-bit data register numbers, an 8-bit `<data8>` and a
6 + 6-bit `<bit6>:<len6>`.

Layout, least significant bit first. Bits 1-0 choose: 0 the two-move form, 1 a move through a DAG register, 2 a
register-to-register move, 3 everything else with a 6-bit code in bits 7-2. A compute slot takes 24 bits: a 4-bit unit,
then (units 8 to 11) a 4-bit or (unit 12) an 8-bit operation, then the operands; unit 15 is the empty slot. Bits no
field uses are zero; a word with one of them set is rejected. -/

namespace Sys2Proof

/-- Why a word is no instruction of the model. -/
inductive DecodeError where
  /-- Fewer than the six bytes of an instruction word. -/
  | truncated
  /-- The 6-bit code in bits 7-2 is unused. -/
  | unusedCode
  /-- The compute unit or operation number is unused. -/
  | unusedCompute
  /-- A field holds a value with no meaning (a universal register number, a multiplier format, a stack operation). -/
  | badField
  /-- A bit that no field uses is set. -/
  | reservedBits
deriving DecidableEq, Repr

/-- `w` bits of `v` from bit `lo` up. -/
def fld (v lo w : Nat) : Nat := v / 2 ^ lo % 2 ^ w

/-- A one-bit field. -/
def flag (v lo : Nat) : Bool := fld v lo 1 == 1

/-- A data register field. -/
def regAt (v lo : Nat) : Reg := Fin.ofNat 16 (fld v lo 4)

/-- A field naming one of four registers. -/
def quadAt (v lo : Nat) : Quad := Fin.ofNat 4 (fld v lo 2)

/-- A field naming one of eight DAG registers. -/
def dagAt (v lo : Nat) : Fin 8 := Fin.ofNat 8 (fld v lo 3)

/-- Accept `x` if every bit of `v` from bit `lo` up is zero. -/
def ends {α : Type} (v lo : Nat) (x : α) : Except DecodeError α :=
  if v / 2 ^ lo = 0 then .ok x else .error .reservedBits

/-- The signedness a bit names. -/
def Sgn.ofCode (k : Nat) : Sgn := if k = 0 then .s else .u

/-- The multiplier modifier in a 4-bit field: sx, sy, then a 2-bit format. -/
def MulMod.ofCode (k : Nat) : Except DecodeError MulMod :=
  match fld k 2 2 with
  | 0 => .ok ⟨Sgn.ofCode (fld k 0 1), Sgn.ofCode (fld k 1 1), .i⟩
  | 1 => .ok ⟨Sgn.ofCode (fld k 0 1), Sgn.ofCode (fld k 1 1), .f⟩
  | 2 => .ok ⟨Sgn.ofCode (fld k 0 1), Sgn.ofCode (fld k 1 1), .fr⟩
  | _ => .error .badField

/-- The SAT modifier in a 2-bit field. -/
def SatMod.ofCode (k : Nat) : SatMod := ⟨Sgn.ofCode (fld k 0 1), flag k 1⟩

/-- The stack operation a 2-bit field names. -/
def StackOp.ofCode : Nat → Except DecodeError StackOp
  | 0 => .ok .none
  | 1 => .ok .push
  | 2 => .ok .pop
  | _ => .error .badField

/-- The condition of a 5-bit code (R421). -/
def Cond.ofCode : Nat → Cond
  | 0 => .eq
  | 1 => .lt
  | 2 => .le
  | 3 => .ac
  | 4 => .av
  | 5 => .mv
  | 6 => .ms
  | 7 => .sv
  | 8 => .sz
  | 9 => .flag0
  | 10 => .flag1
  | 11 => .flag2
  | 12 => .flag3
  | 13 => .tf
  | 14 => .bm
  | 15 => .lce
  | 16 => .ne
  | 17 => .ge
  | 18 => .gt
  | 19 => .notAc
  | 20 => .notAv
  | 21 => .notMv
  | 22 => .notMs
  | 23 => .notSv
  | 24 => .notSz
  | 25 => .notFlag0
  | 26 => .notFlag1
  | 27 => .notFlag2
  | 28 => .notFlag3
  | 29 => .notTf
  | 30 => .nbm
  | _ => .tru

/-- The kind of DAG register a 2-bit code names. -/
def DagKind.ofCode : Nat → DagKind
  | 0 => .i
  | 1 => .m
  | 2 => .l
  | _ => .b

/-- The system register of a code from 0 to 8. -/
def Sreg.ofCode : Nat → Except DecodeError Sreg
  | 0 => .ok .mode1
  | 1 => .ok .mode2
  | 2 => .ok .irptl
  | 3 => .ok .imask
  | 4 => .ok .imaskp
  | 5 => .ok .astat
  | 6 => .ok .stky
  | 7 => .ok .ustat1
  | 8 => .ok .ustat2
  | _ => .error .badField

/-- The named universal register of a code from 0 to 12, from code 80 of a register field on. -/
def Ureg.ofNamed : Nat → Except DecodeError Ureg
  | 0 => .ok .px
  | 1 => .ok .px1
  | 2 => .ok .px2
  | 3 => .ok .faddr
  | 4 => .ok .daddr
  | 5 => .ok .pc
  | 6 => .ok .pcstk
  | 7 => .ok .pcstkp
  | 8 => .ok .laddr
  | 9 => .ok .curlcntr
  | 10 => .ok .lcntr
  | 11 => .ok .tcount
  | 12 => .ok .tperiod
  | _ => .error .badField

/-- The universal register of a 7-bit code: 0-15 data registers, 16-47 DAG1, 48-79 DAG2 (kind, then number), 80-92
the named registers, 96-104 the system registers. -/
def Ureg.ofCode (k : Nat) : Except DecodeError Ureg :=
  if k < 16 then .ok (.r (Fin.ofNat 16 k))
  else if k < 48 then .ok (.dag1 (DagKind.ofCode ((k - 16) / 8)) (Fin.ofNat 8 k))
  else if k < 80 then .ok (.dag2 (DagKind.ofCode ((k - 48) / 8)) (Fin.ofNat 8 k))
  else if k < 96 then Ureg.ofNamed (k - 80)
  else (Sreg.ofCode (k - 96)).map .sys

/-- Unit 8: fixed-point multiply/accumulate with an ALU operation (R374). `v` is the 24-bit compute field. -/
def decodeFixedMacAlu (v : Nat) : Except DecodeError Compute :=
  match fld v 4 4 with
  | 0 => .ok (.mulRWithAdd (regAt v 8) (regAt v 12) (quadAt v 16) (quadAt v 18) (quadAt v 20) (quadAt v 22))
  | 1 => .ok (.mulRWithSub (regAt v 8) (regAt v 12) (quadAt v 16) (quadAt v 18) (quadAt v 20) (quadAt v 22))
  | 2 => .ok (.mulRWithAvg (regAt v 8) (regAt v 12) (quadAt v 16) (quadAt v 18) (quadAt v 20) (quadAt v 22))
  | 3 => ends v 20 (.macAddMrfWithAdd (regAt v 8) (quadAt v 12) (quadAt v 14) (quadAt v 16) (quadAt v 18))
  | 4 => ends v 20 (.macAddMrfWithSub (regAt v 8) (quadAt v 12) (quadAt v 14) (quadAt v 16) (quadAt v 18))
  | 5 => ends v 20 (.macAddMrfWithAvg (regAt v 8) (quadAt v 12) (quadAt v 14) (quadAt v 16) (quadAt v 18))
  | 6 => .ok (.macAddRMrfWithAdd (regAt v 8) (regAt v 12) (quadAt v 16) (quadAt v 18) (quadAt v 20) (quadAt v 22))
  | 7 => .ok (.macAddRMrfWithSub (regAt v 8) (regAt v 12) (quadAt v 16) (quadAt v 18) (quadAt v 20) (quadAt v 22))
  | 8 => .ok (.macAddRMrfWithAvg (regAt v 8) (regAt v 12) (quadAt v 16) (quadAt v 18) (quadAt v 20) (quadAt v 22))
  | 9 => ends v 20 (.macSubMrfWithAdd (regAt v 8) (quadAt v 12) (quadAt v 14) (quadAt v 16) (quadAt v 18))
  | 10 => ends v 20 (.macSubMrfWithSub (regAt v 8) (quadAt v 12) (quadAt v 14) (quadAt v 16) (quadAt v 18))
  | 11 => ends v 20 (.macSubMrfWithAvg (regAt v 8) (quadAt v 12) (quadAt v 14) (quadAt v 16) (quadAt v 18))
  | 12 => .ok (.macSubRMrfWithAdd (regAt v 8) (regAt v 12) (quadAt v 16) (quadAt v 18) (quadAt v 20) (quadAt v 22))
  | 13 => .ok (.macSubRMrfWithSub (regAt v 8) (regAt v 12) (quadAt v 16) (quadAt v 18) (quadAt v 20) (quadAt v 22))
  | 14 => .ok (.macSubRMrfWithAvg (regAt v 8) (regAt v 12) (quadAt v 16) (quadAt v 18) (quadAt v 20) (quadAt v 22))
  | _ => .error .unusedCompute

/-- Unit 9: floating-point multiply with an ALU operation (R375), and the two dual add/subtracts (R371, R372). `v` is the 24-bit compute field. -/
def decodeFloatMulAlu (v : Nat) : Except DecodeError Compute :=
  match fld v 4 4 with
  | 0 => .ok (.fMulWithFAdd (regAt v 8) (regAt v 12) (quadAt v 16) (quadAt v 18) (quadAt v 20) (quadAt v 22))
  | 1 => .ok (.fMulWithFSub (regAt v 8) (regAt v 12) (quadAt v 16) (quadAt v 18) (quadAt v 20) (quadAt v 22))
  | 2 => .ok (.fMulWithFloatBy (regAt v 8) (regAt v 12) (quadAt v 16) (quadAt v 18) (quadAt v 20) (quadAt v 22))
  | 3 => .ok (.fMulWithFixBy (regAt v 8) (regAt v 12) (quadAt v 16) (quadAt v 18) (quadAt v 20) (quadAt v 22))
  | 4 => .ok (.fMulWithFAvg (regAt v 8) (regAt v 12) (quadAt v 16) (quadAt v 18) (quadAt v 20) (quadAt v 22))
  | 5 => ends v 22 (.fMulWithFAbs (regAt v 8) (regAt v 12) (quadAt v 16) (quadAt v 18) (quadAt v 20))
  | 6 => .ok (.fMulWithFMax (regAt v 8) (regAt v 12) (quadAt v 16) (quadAt v 18) (quadAt v 20) (quadAt v 22))
  | 7 => .ok (.fMulWithFMin (regAt v 8) (regAt v 12) (quadAt v 16) (quadAt v 18) (quadAt v 20) (quadAt v 22))
  | 8 => .ok (.dualAddSub (regAt v 8) (regAt v 12) (regAt v 16) (regAt v 20))
  | 9 => .ok (.dualFAddSub (regAt v 8) (regAt v 12) (regAt v 16) (regAt v 20))
  | _ => .error .unusedCompute

/-- Unit 10: shifts and bit operations by `<data8>`. `v` is the 24-bit compute field. -/
def decodeShiftImm (v : Nat) : Except DecodeError Compute :=
  match fld v 4 4 with
  | 0 => .ok (.lshiftImm (regAt v 8) (regAt v 12) (BitVec.ofNat 8 (fld v 16 8)))
  | 1 => .ok (.orLshiftImm (regAt v 8) (regAt v 12) (BitVec.ofNat 8 (fld v 16 8)))
  | 2 => .ok (.ashiftImm (regAt v 8) (regAt v 12) (BitVec.ofNat 8 (fld v 16 8)))
  | 3 => .ok (.orAshiftImm (regAt v 8) (regAt v 12) (BitVec.ofNat 8 (fld v 16 8)))
  | 4 => .ok (.rotImm (regAt v 8) (regAt v 12) (BitVec.ofNat 8 (fld v 16 8)))
  | 5 => .ok (.bclrImm (regAt v 8) (regAt v 12) (BitVec.ofNat 8 (fld v 16 8)))
  | 6 => .ok (.bsetImm (regAt v 8) (regAt v 12) (BitVec.ofNat 8 (fld v 16 8)))
  | 7 => .ok (.btglImm (regAt v 8) (regAt v 12) (BitVec.ofNat 8 (fld v 16 8)))
  | 8 => ends v 20 (.btstImm (regAt v 8) (BitVec.ofNat 8 (fld v 12 8)))
  | _ => .error .unusedCompute

/-- Unit 11: fixed-point multiplies and multiply/accumulates. `v` is the 24-bit compute field. -/
def decodeMul (v : Nat) : Except DecodeError Compute :=
  match fld v 4 4 with
  | 0 => (MulMod.ofCode (fld v 20 4)).bind fun md => ends v 24 (.mulR (regAt v 8) (regAt v 12) (regAt v 16) md)
  | 1 => (MulMod.ofCode (fld v 16 4)).bind fun md => ends v 20 (.mulMrf (regAt v 8) (regAt v 12) md)
  | 2 => (MulMod.ofCode (fld v 16 4)).bind fun md => ends v 20 (.mulMrb (regAt v 8) (regAt v 12) md)
  | 3 => (MulMod.ofCode (fld v 20 4)).bind fun md => ends v 24 (.macAddRMrf (regAt v 8) (regAt v 12) (regAt v 16) md)
  | 4 => (MulMod.ofCode (fld v 20 4)).bind fun md => ends v 24 (.macAddRMrb (regAt v 8) (regAt v 12) (regAt v 16) md)
  | 5 => (MulMod.ofCode (fld v 16 4)).bind fun md => ends v 20 (.macAddMrf (regAt v 8) (regAt v 12) md)
  | 6 => (MulMod.ofCode (fld v 16 4)).bind fun md => ends v 20 (.macAddMrb (regAt v 8) (regAt v 12) md)
  | 7 => (MulMod.ofCode (fld v 20 4)).bind fun md => ends v 24 (.macSubRMrf (regAt v 8) (regAt v 12) (regAt v 16) md)
  | 8 => (MulMod.ofCode (fld v 20 4)).bind fun md => ends v 24 (.macSubRMrb (regAt v 8) (regAt v 12) (regAt v 16) md)
  | 9 => (MulMod.ofCode (fld v 16 4)).bind fun md => ends v 20 (.macSubMrf (regAt v 8) (regAt v 12) md)
  | 10 => (MulMod.ofCode (fld v 16 4)).bind fun md => ends v 20 (.macSubMrb (regAt v 8) (regAt v 12) md)
  | _ => .error .unusedCompute

/-- Unit 12: every operation with at most three 4-bit operands. -/
def decodeShortOp (v : Nat) : Except DecodeError Compute :=
  match fld v 4 8 with
  | 0 => .ok (.rAdd (regAt v 12) (regAt v 16) (regAt v 20))
  | 1 => .ok (.rSub (regAt v 12) (regAt v 16) (regAt v 20))
  | 2 => .ok (.rAddCi (regAt v 12) (regAt v 16) (regAt v 20))
  | 3 => .ok (.rSubCi (regAt v 12) (regAt v 16) (regAt v 20))
  | 4 => .ok (.rAvg (regAt v 12) (regAt v 16) (regAt v 20))
  | 5 => ends v 20 (.rComp (regAt v 12) (regAt v 16))
  | 6 => ends v 20 (.rPlusCi (regAt v 12) (regAt v 16))
  | 7 => ends v 20 (.rPlusCiLess1 (regAt v 12) (regAt v 16))
  | 8 => ends v 20 (.rInc (regAt v 12) (regAt v 16))
  | 9 => ends v 20 (.rDec (regAt v 12) (regAt v 16))
  | 10 => ends v 20 (.rNeg (regAt v 12) (regAt v 16))
  | 11 => ends v 20 (.rAbs (regAt v 12) (regAt v 16))
  | 12 => ends v 20 (.rPass (regAt v 12) (regAt v 16))
  | 13 => .ok (.rAnd (regAt v 12) (regAt v 16) (regAt v 20))
  | 14 => .ok (.rOr (regAt v 12) (regAt v 16) (regAt v 20))
  | 15 => .ok (.rXor (regAt v 12) (regAt v 16) (regAt v 20))
  | 16 => ends v 20 (.rNot (regAt v 12) (regAt v 16))
  | 17 => .ok (.rMin (regAt v 12) (regAt v 16) (regAt v 20))
  | 18 => .ok (.rMax (regAt v 12) (regAt v 16) (regAt v 20))
  | 19 => .ok (.rClip (regAt v 12) (regAt v 16) (regAt v 20))
  | 20 => .ok (.fAdd (regAt v 12) (regAt v 16) (regAt v 20))
  | 21 => .ok (.fSub (regAt v 12) (regAt v 16) (regAt v 20))
  | 22 => .ok (.fAbsAdd (regAt v 12) (regAt v 16) (regAt v 20))
  | 23 => .ok (.fAbsSub (regAt v 12) (regAt v 16) (regAt v 20))
  | 24 => .ok (.fAvg (regAt v 12) (regAt v 16) (regAt v 20))
  | 25 => ends v 20 (.fComp (regAt v 12) (regAt v 16))
  | 26 => ends v 20 (.fNeg (regAt v 12) (regAt v 16))
  | 27 => ends v 20 (.fAbs (regAt v 12) (regAt v 16))
  | 28 => ends v 20 (.fPass (regAt v 12) (regAt v 16))
  | 29 => ends v 20 (.fRnd (regAt v 12) (regAt v 16))
  | 30 => .ok (.fScalb (regAt v 12) (regAt v 16) (regAt v 20))
  | 31 => ends v 20 (.fMant (regAt v 12) (regAt v 16))
  | 32 => ends v 20 (.fLogb (regAt v 12) (regAt v 16))
  | 33 => .ok (.fFixBy (regAt v 12) (regAt v 16) (regAt v 20))
  | 34 => ends v 20 (.fFix (regAt v 12) (regAt v 16))
  | 35 => .ok (.fFloatBy (regAt v 12) (regAt v 16) (regAt v 20))
  | 36 => ends v 20 (.fFloat (regAt v 12) (regAt v 16))
  | 37 => ends v 20 (.fRecips (regAt v 12) (regAt v 16))
  | 38 => ends v 20 (.fRsqrts (regAt v 12) (regAt v 16))
  | 39 => .ok (.fCopysign (regAt v 12) (regAt v 16) (regAt v 20))
  | 40 => .ok (.fMin (regAt v 12) (regAt v 16) (regAt v 20))
  | 41 => .ok (.fMax (regAt v 12) (regAt v 16) (regAt v 20))
  | 42 => .ok (.fClip (regAt v 12) (regAt v 16) (regAt v 20))
  | 43 => ends v 18 (.satRMrf (regAt v 12) (SatMod.ofCode (fld v 16 2)))
  | 44 => ends v 18 (.satRMrb (regAt v 12) (SatMod.ofCode (fld v 16 2)))
  | 45 => ends v 14 (.satMrf (SatMod.ofCode (fld v 12 2)))
  | 46 => ends v 14 (.satMrb (SatMod.ofCode (fld v 12 2)))
  | 47 => ends v 17 (.rndRMrf (regAt v 12) (Sgn.ofCode (fld v 16 1)))
  | 48 => ends v 17 (.rndRMrb (regAt v 12) (Sgn.ofCode (fld v 16 1)))
  | 49 => ends v 13 (.rndMrf (Sgn.ofCode (fld v 12 1)))
  | 50 => ends v 13 (.rndMrb (Sgn.ofCode (fld v 12 1)))
  | 51 => ends v 12 .clrMrf
  | 52 => ends v 12 .clrMrb
  | 53 => ends v 16 (.rdMr0f (regAt v 12))
  | 54 => ends v 16 (.rdMr1f (regAt v 12))
  | 55 => ends v 16 (.rdMr2f (regAt v 12))
  | 56 => ends v 16 (.rdMr0b (regAt v 12))
  | 57 => ends v 16 (.rdMr1b (regAt v 12))
  | 58 => ends v 16 (.rdMr2b (regAt v 12))
  | 59 => ends v 16 (.wrMr0f (regAt v 12))
  | 60 => ends v 16 (.wrMr1f (regAt v 12))
  | 61 => ends v 16 (.wrMr2f (regAt v 12))
  | 62 => ends v 16 (.wrMr0b (regAt v 12))
  | 63 => ends v 16 (.wrMr1b (regAt v 12))
  | 64 => ends v 16 (.wrMr2b (regAt v 12))
  | 65 => .ok (.fMul (regAt v 12) (regAt v 16) (regAt v 20))
  | 66 => .ok (.lshift (regAt v 12) (regAt v 16) (regAt v 20))
  | 67 => .ok (.orLshift (regAt v 12) (regAt v 16) (regAt v 20))
  | 68 => .ok (.ashift (regAt v 12) (regAt v 16) (regAt v 20))
  | 69 => .ok (.orAshift (regAt v 12) (regAt v 16) (regAt v 20))
  | 70 => .ok (.rot (regAt v 12) (regAt v 16) (regAt v 20))
  | 71 => .ok (.bclr (regAt v 12) (regAt v 16) (regAt v 20))
  | 72 => .ok (.bset (regAt v 12) (regAt v 16) (regAt v 20))
  | 73 => .ok (.btgl (regAt v 12) (regAt v 16) (regAt v 20))
  | 74 => ends v 20 (.btst (regAt v 12) (regAt v 16))
  | 75 => .ok (.fdep (regAt v 12) (regAt v 16) (regAt v 20))
  | 76 => .ok (.orFdep (regAt v 12) (regAt v 16) (regAt v 20))
  | 77 => .ok (.fdepSe (regAt v 12) (regAt v 16) (regAt v 20))
  | 78 => .ok (.orFdepSe (regAt v 12) (regAt v 16) (regAt v 20))
  | 79 => .ok (.fext (regAt v 12) (regAt v 16) (regAt v 20))
  | 80 => .ok (.fextSe (regAt v 12) (regAt v 16) (regAt v 20))
  | 81 => ends v 20 (.expo (regAt v 12) (regAt v 16))
  | 82 => ends v 20 (.expoEx (regAt v 12) (regAt v 16))
  | 83 => ends v 20 (.leftz (regAt v 12) (regAt v 16))
  | 84 => ends v 20 (.lefto (regAt v 12) (regAt v 16))
  | 85 => ends v 20 (.fpack (regAt v 12) (regAt v 16))
  | 86 => ends v 20 (.funpack (regAt v 12) (regAt v 16))
  | _ => .error .unusedCompute

/-- The computation in a 24-bit compute field. -/
def decodeCompute (v : Nat) : Except DecodeError Compute :=
  match fld v 0 4 with
  | 0 => .ok (.fdepImm (regAt v 4) (regAt v 8) (BitVec.ofNat 6 (fld v 12 6)) (BitVec.ofNat 6 (fld v 18 6)))
  | 1 => .ok (.orFdepImm (regAt v 4) (regAt v 8) (BitVec.ofNat 6 (fld v 12 6)) (BitVec.ofNat 6 (fld v 18 6)))
  | 2 => .ok (.fdepSeImm (regAt v 4) (regAt v 8) (BitVec.ofNat 6 (fld v 12 6)) (BitVec.ofNat 6 (fld v 18 6)))
  | 3 => .ok (.orFdepSeImm (regAt v 4) (regAt v 8) (BitVec.ofNat 6 (fld v 12 6)) (BitVec.ofNat 6 (fld v 18 6)))
  | 4 => .ok (.fextImm (regAt v 4) (regAt v 8) (BitVec.ofNat 6 (fld v 12 6)) (BitVec.ofNat 6 (fld v 18 6)))
  | 5 => .ok (.fextSeImm (regAt v 4) (regAt v 8) (BitVec.ofNat 6 (fld v 12 6)) (BitVec.ofNat 6 (fld v 18 6)))
  | 6 => .ok (.mulRWithDual (regAt v 4) (regAt v 8) (regAt v 12) (quadAt v 16) (quadAt v 18) (quadAt v 20) (quadAt v 22))
  | 7 => .ok (.fMulWithDual (regAt v 4) (regAt v 8) (regAt v 12) (quadAt v 16) (quadAt v 18) (quadAt v 20) (quadAt v 22))
  | 8 => decodeFixedMacAlu v
  | 9 => decodeFloatMulAlu v
  | 10 => decodeShiftImm v
  | 11 => decodeMul v
  | 12 => decodeShortOp v
  | _ => .error .unusedCompute

/-- The compute slot of an instruction: unit 15 with no operand is the empty slot. -/
def decodeSlot (v : Nat) : Except DecodeError (Option Compute) :=
  if v = 15 then .ok none else (decodeCompute v).map some

/-- One side of the two-move form in 11 bits: store, register, I, M. -/
def sideAt (v lo : Nat) : DualSide := ⟨flag v lo, regAt v (lo + 1), dagAt v (lo + 5), dagAt v (lo + 8)⟩

/-- Sign-extend a 6-bit PC-relative offset to 24 bits. -/
def offset6 (k : Nat) : A24 := (BitVec.ofNat 6 k).signExtend 24

/-- The moves through a DAG register: a 3-bit form in bits 4-2, then condition, compute, register, I, M. -/
def decodeDagMove (v : Nat) : Except DecodeError Instr :=
  (decodeSlot (fld v 10 24)).bind fun c =>
  (Ureg.ofCode (fld v 34 7)).bind fun u =>
  let cond := Cond.ofCode (fld v 5 5)
  let i := dagAt v 41
  let m := dagAt v 44
  match fld v 2 3 with
  | 0 => ends v 47 (.ldDmPost cond c u i m)
  | 1 => ends v 47 (.stDmPost cond c i m u)
  | 2 => ends v 47 (.ldPmPost cond c u i m)
  | 3 => ends v 47 (.stPmPost cond c i m u)
  | 4 => ends v 47 (.ldDmPre cond c u m i)
  | 5 => ends v 47 (.stDmPre cond c m i u)
  | 6 => ends v 47 (.ldPmPre cond c u m i)
  | _ => ends v 47 (.stPmPre cond c m i u)

/-- A system register and 32-bit data, for the bit manipulations. -/
def decodeBit (v : Nat) (k : Sreg → W32 → Instr) : Except DecodeError Instr :=
  (Sreg.ofCode (fld v 8 4)).bind fun r => ends v 44 (k r (BitVec.ofNat 32 (fld v 12 32)))

/-- Everything else, by the 6-bit code in bits 7-2. -/
def decodeOther (v : Nat) : Except DecodeError Instr :=
  let cond := Cond.ofCode (fld v 8 5)
  let db := flag v 13
  match fld v 2 6 with
  | 0 => (decodeCompute (fld v 8 24)).bind fun c => ends v 32 (Instr.ofCompute c)
  | 1 => (decodeCompute (fld v 13 24)).bind fun c => ends v 37 (.compute cond c)
  | 2 => (Ureg.ofCode (fld v 8 7)).bind fun u => ends v 47 (.loadImm u (BitVec.ofNat 32 (fld v 15 32)))
  | 3 => (Ureg.ofCode (fld v 8 7)).bind fun u => ends v 47 (.ldDmAbs u (BitVec.ofNat 32 (fld v 15 32)))
  | 4 => (Ureg.ofCode (fld v 8 7)).bind fun u => ends v 47 (.stDmAbs (BitVec.ofNat 32 (fld v 15 32)) u)
  | 5 => (Ureg.ofCode (fld v 8 7)).bind fun u => ends v 39 (.ldPmAbs u (BitVec.ofNat 24 (fld v 15 24)))
  | 6 => (Ureg.ofCode (fld v 8 7)).bind fun u => ends v 39 (.stPmAbs (BitVec.ofNat 24 (fld v 15 24)) u)
  | 7 => ends v 38 (.jumpAbs cond (BitVec.ofNat 24 (fld v 14 24)) db none)
  | 8 => ends v 38 (.jumpRel cond (BitVec.ofNat 24 (fld v 14 24)) db none)
  | 9 => (decodeCompute (fld v 14 24)).bind fun c => ends v 44 (.jumpRel cond (offset6 (fld v 38 6)) db (some c))
  | 10 => (decodeSlot (fld v 14 24)).bind fun c => ends v 44 (.jumpInd cond (dagAt v 38) (dagAt v 41) db c)
  | 11 => ends v 38 (.callAbs cond (BitVec.ofNat 24 (fld v 14 24)) db none)
  | 12 => ends v 38 (.callRel cond (BitVec.ofNat 24 (fld v 14 24)) db none)
  | 13 => (decodeCompute (fld v 14 24)).bind fun c => ends v 44 (.callRel cond (offset6 (fld v 38 6)) db (some c))
  | 14 => (decodeSlot (fld v 14 24)).bind fun c => ends v 44 (.callInd cond (dagAt v 38) (dagAt v 41) db c)
  | 15 => (decodeSlot (fld v 14 24)).bind fun c => ends v 38 (.rts cond db c)
  | 16 => (decodeSlot (fld v 14 24)).bind fun c => ends v 38 (.rtsLr cond db c)
  | 17 => (decodeSlot (fld v 14 24)).bind fun c => ends v 38 (.rti cond db c)
  | 18 => ends v 39 (.jumpLa cond (.abs (BitVec.ofNat 24 (fld v 15 24))) db (flag v 14) none)
  | 19 => ends v 39 (.jumpLa cond (.rel (BitVec.ofNat 24 (fld v 15 24))) db (flag v 14) none)
  | 20 => (decodeCompute (fld v 15 24)).bind fun c =>
      ends v 45 (.jumpLa cond (.rel (offset6 (fld v 39 6))) db (flag v 14) (some c))
  | 21 => (decodeSlot (fld v 15 24)).bind fun c =>
      ends v 45 (.jumpLa cond (.ind (dagAt v 39) (dagAt v 42)) db (flag v 14) c)
  | 22 => ends v 38 (.jumpCi cond (.abs (BitVec.ofNat 24 (fld v 14 24))) db none)
  | 23 => ends v 38 (.jumpCi cond (.rel (BitVec.ofNat 24 (fld v 14 24))) db none)
  | 24 => (decodeCompute (fld v 14 24)).bind fun c =>
      ends v 44 (.jumpCi cond (.rel (offset6 (fld v 38 6))) db (some c))
  | 25 => (decodeSlot (fld v 14 24)).bind fun c => ends v 44 (.jumpCi cond (.ind (dagAt v 38) (dagAt v 41)) db c)
  | 26 => ends v 37 (.doAbs (BitVec.ofNat 24 (fld v 13 24)) cond)
  | 27 => ends v 37 (.doRel (BitVec.ofNat 24 (fld v 13 24)) cond)
  | 28 => ends v 48 (.doCountImm (BitVec.ofNat 32 (fld v 32 16)) ⟨BitVec.ofNat 24 (fld v 8 24), .lce⟩)
  | 29 =>
    (Ureg.ofCode (fld v 32 7)).bind fun u =>
      ends v 44 (.doCountUreg u ⟨BitVec.ofNat 24 (fld v 8 24), Cond.ofCode (fld v 39 5)⟩)
  | 30 => decodeBit v .bitSet
  | 31 => decodeBit v .bitClr
  | 32 => decodeBit v .bitTgl
  | 33 => decodeBit v .bitTst
  | 34 => decodeBit v .bitXor
  | 35 => (StackOp.ofCode (fld v 8 2)).bind fun a => (StackOp.ofCode (fld v 10 2)).bind fun b => ends v 12 (.pushLoop a b)
  | 36 => (StackOp.ofCode (fld v 8 2)).bind fun a => (StackOp.ofCode (fld v 10 2)).bind fun b => ends v 12 (.popLoop a b)
  | 37 => (StackOp.ofCode (fld v 8 2)).bind fun a => ends v 10 (.pushSts a)
  | 38 => (StackOp.ofCode (fld v 8 2)).bind fun a => ends v 10 (.popSts a)
  | 39 => ends v 8 .pushPcstk
  | 40 => ends v 8 .popPcstk
  | 41 => ends v 8 .idle16
  | 42 => ends v 8 .idle
  | 43 => ends v 8 .nop
  | _ => .error .unusedCode

/-- The instruction of a 48-bit word, as a number. -/
def decodeNat (v : Nat) : Except DecodeError Instr :=
  match fld v 0 2 with
  | 0 => (decodeSlot (fld v 2 24)).bind fun c => ends v 48 (.dualMove .tru c (sideAt v 26) (sideAt v 37))
  | 1 => decodeDagMove v
  | 2 =>
    (decodeSlot (fld v 7 24)).bind fun c =>
    (Ureg.ofCode (fld v 31 7)).bind fun d =>
    (Ureg.ofCode (fld v 38 7)).bind fun s => ends v 45 (.uregMove (Cond.ofCode (fld v 2 5)) c d s)
  | _ => decodeOther v

/-- `Decode` (R142, D1): the instruction of a 48-bit word, or why there is none. -/
def decode (w : W48) : Except DecodeError Instr := decodeNat w.toNat

/-- The number whose bytes, least significant first, are the list's. -/
def ofBytes : List Byte → Nat
  | [] => 0
  | b :: bs => b.toNat + 256 * ofBytes bs

/-- The instruction in the first six bytes of a list, least significant byte first, and the bytes after it. -/
def decodeBytes (bs : List Byte) : Except DecodeError (Instr × List Byte) :=
  if bs.length < 6 then .error .truncated
  else (decodeNat (ofBytes (bs.take 6))).map fun i => (i, bs.drop 6)

/-- The `n` low bytes of a number, least significant first. -/
def toBytes : Nat → Nat → List Byte
  | 0, _ => []
  | n + 1, v => BitVec.ofNat 8 v :: toBytes n (v / 256)

/-- What the decoder reads from an instruction whose bits are `w`: one 48-bit word, every bit from `nbits` up zero. -/
def decodeTableWord (nbits w : Nat) : Option Instr :=
  match decodeBytes (toBytes 6 (w % 2 ^ nbits)) with
  | .ok (i, _) => some i
  | .error _ => none

/-! The encoder. -/

/-- The number whose fields, least significant first, are the (width, value) pairs of the list. -/
def pack : List (Nat × Nat) → Nat
  | [] => 0
  | (w, v) :: l => v % 2 ^ w + 2 ^ w * pack l

/-- 1 for true. -/
def bit1 (b : Bool) : Nat := if b then 1 else 0

def Sgn.code : Sgn → Nat
  | .s => 0
  | .u => 1

def MulFmt.code : MulFmt → Nat
  | .i => 0
  | .f => 1
  | .fr => 2

def MulMod.code (m : MulMod) : Nat := pack [(1, m.sx.code), (1, m.sy.code), (2, m.fmt.code)]

def SatMod.code (m : SatMod) : Nat := pack [(1, m.sg.code), (1, bit1 m.frac)]

def StackOp.code : StackOp → Nat
  | .none => 0
  | .push => 1
  | .pop => 2

/-- The 5-bit code of a condition (R421). -/
def Cond.code : Cond → Nat
  | .eq => 0
  | .lt => 1
  | .le => 2
  | .ac => 3
  | .av => 4
  | .mv => 5
  | .ms => 6
  | .sv => 7
  | .sz => 8
  | .flag0 => 9
  | .flag1 => 10
  | .flag2 => 11
  | .flag3 => 12
  | .tf => 13
  | .bm => 14
  | .lce => 15
  | .ne => 16
  | .ge => 17
  | .gt => 18
  | .notAc => 19
  | .notAv => 20
  | .notMv => 21
  | .notMs => 22
  | .notSv => 23
  | .notSz => 24
  | .notFlag0 => 25
  | .notFlag1 => 26
  | .notFlag2 => 27
  | .notFlag3 => 28
  | .notTf => 29
  | .nbm => 30
  | .tru => 31

def DagKind.code : DagKind → Nat
  | .i => 0
  | .m => 1
  | .l => 2
  | .b => 3

def Sreg.code : Sreg → Nat
  | .mode1 => 0
  | .mode2 => 1
  | .irptl => 2
  | .imask => 3
  | .imaskp => 4
  | .astat => 5
  | .stky => 6
  | .ustat1 => 7
  | .ustat2 => 8

/-- The 7-bit code of a universal register. -/
def Ureg.code : Ureg → Nat
  | .r n => n.val
  | .dag1 k n => 16 + 8 * k.code + n.val
  | .dag2 k n => 48 + 8 * k.code + n.val
  | .px => 80
  | .px1 => 81
  | .px2 => 82
  | .faddr => 83
  | .daddr => 84
  | .pc => 85
  | .pcstk => 86
  | .pcstkp => 87
  | .laddr => 88
  | .curlcntr => 89
  | .lcntr => 90
  | .tcount => 91
  | .tperiod => 92
  | .sys s => 96 + s.code

/-- The fields of a computation, 24 bits at most. -/
def Compute.fields : Compute → List (Nat × Nat)
  | .rAdd n x y => [(4, 12), (8, 0), (4, n.val), (4, x.val), (4, y.val)]
  | .rSub n x y => [(4, 12), (8, 1), (4, n.val), (4, x.val), (4, y.val)]
  | .rAddCi n x y => [(4, 12), (8, 2), (4, n.val), (4, x.val), (4, y.val)]
  | .rSubCi n x y => [(4, 12), (8, 3), (4, n.val), (4, x.val), (4, y.val)]
  | .rAvg n x y => [(4, 12), (8, 4), (4, n.val), (4, x.val), (4, y.val)]
  | .rComp x y => [(4, 12), (8, 5), (4, x.val), (4, y.val)]
  | .rPlusCi n x => [(4, 12), (8, 6), (4, n.val), (4, x.val)]
  | .rPlusCiLess1 n x => [(4, 12), (8, 7), (4, n.val), (4, x.val)]
  | .rInc n x => [(4, 12), (8, 8), (4, n.val), (4, x.val)]
  | .rDec n x => [(4, 12), (8, 9), (4, n.val), (4, x.val)]
  | .rNeg n x => [(4, 12), (8, 10), (4, n.val), (4, x.val)]
  | .rAbs n x => [(4, 12), (8, 11), (4, n.val), (4, x.val)]
  | .rPass n x => [(4, 12), (8, 12), (4, n.val), (4, x.val)]
  | .rAnd n x y => [(4, 12), (8, 13), (4, n.val), (4, x.val), (4, y.val)]
  | .rOr n x y => [(4, 12), (8, 14), (4, n.val), (4, x.val), (4, y.val)]
  | .rXor n x y => [(4, 12), (8, 15), (4, n.val), (4, x.val), (4, y.val)]
  | .rNot n x => [(4, 12), (8, 16), (4, n.val), (4, x.val)]
  | .rMin n x y => [(4, 12), (8, 17), (4, n.val), (4, x.val), (4, y.val)]
  | .rMax n x y => [(4, 12), (8, 18), (4, n.val), (4, x.val), (4, y.val)]
  | .rClip n x y => [(4, 12), (8, 19), (4, n.val), (4, x.val), (4, y.val)]
  | .fAdd n x y => [(4, 12), (8, 20), (4, n.val), (4, x.val), (4, y.val)]
  | .fSub n x y => [(4, 12), (8, 21), (4, n.val), (4, x.val), (4, y.val)]
  | .fAbsAdd n x y => [(4, 12), (8, 22), (4, n.val), (4, x.val), (4, y.val)]
  | .fAbsSub n x y => [(4, 12), (8, 23), (4, n.val), (4, x.val), (4, y.val)]
  | .fAvg n x y => [(4, 12), (8, 24), (4, n.val), (4, x.val), (4, y.val)]
  | .fComp x y => [(4, 12), (8, 25), (4, x.val), (4, y.val)]
  | .fNeg n x => [(4, 12), (8, 26), (4, n.val), (4, x.val)]
  | .fAbs n x => [(4, 12), (8, 27), (4, n.val), (4, x.val)]
  | .fPass n x => [(4, 12), (8, 28), (4, n.val), (4, x.val)]
  | .fRnd n x => [(4, 12), (8, 29), (4, n.val), (4, x.val)]
  | .fScalb n x y => [(4, 12), (8, 30), (4, n.val), (4, x.val), (4, y.val)]
  | .fMant n x => [(4, 12), (8, 31), (4, n.val), (4, x.val)]
  | .fLogb n x => [(4, 12), (8, 32), (4, n.val), (4, x.val)]
  | .fFixBy n x y => [(4, 12), (8, 33), (4, n.val), (4, x.val), (4, y.val)]
  | .fFix n x => [(4, 12), (8, 34), (4, n.val), (4, x.val)]
  | .fFloatBy n x y => [(4, 12), (8, 35), (4, n.val), (4, x.val), (4, y.val)]
  | .fFloat n x => [(4, 12), (8, 36), (4, n.val), (4, x.val)]
  | .fRecips n x => [(4, 12), (8, 37), (4, n.val), (4, x.val)]
  | .fRsqrts n x => [(4, 12), (8, 38), (4, n.val), (4, x.val)]
  | .fCopysign n x y => [(4, 12), (8, 39), (4, n.val), (4, x.val), (4, y.val)]
  | .fMin n x y => [(4, 12), (8, 40), (4, n.val), (4, x.val), (4, y.val)]
  | .fMax n x y => [(4, 12), (8, 41), (4, n.val), (4, x.val), (4, y.val)]
  | .fClip n x y => [(4, 12), (8, 42), (4, n.val), (4, x.val), (4, y.val)]
  | .mulR n x y md => [(4, 11), (4, 0), (4, n.val), (4, x.val), (4, y.val), (4, md.code)]
  | .mulMrf x y md => [(4, 11), (4, 1), (4, x.val), (4, y.val), (4, md.code)]
  | .mulMrb x y md => [(4, 11), (4, 2), (4, x.val), (4, y.val), (4, md.code)]
  | .macAddRMrf n x y md => [(4, 11), (4, 3), (4, n.val), (4, x.val), (4, y.val), (4, md.code)]
  | .macAddRMrb n x y md => [(4, 11), (4, 4), (4, n.val), (4, x.val), (4, y.val), (4, md.code)]
  | .macAddMrf x y md => [(4, 11), (4, 5), (4, x.val), (4, y.val), (4, md.code)]
  | .macAddMrb x y md => [(4, 11), (4, 6), (4, x.val), (4, y.val), (4, md.code)]
  | .macSubRMrf n x y md => [(4, 11), (4, 7), (4, n.val), (4, x.val), (4, y.val), (4, md.code)]
  | .macSubRMrb n x y md => [(4, 11), (4, 8), (4, n.val), (4, x.val), (4, y.val), (4, md.code)]
  | .macSubMrf x y md => [(4, 11), (4, 9), (4, x.val), (4, y.val), (4, md.code)]
  | .macSubMrb x y md => [(4, 11), (4, 10), (4, x.val), (4, y.val), (4, md.code)]
  | .satRMrf n md => [(4, 12), (8, 43), (4, n.val), (2, md.code)]
  | .satRMrb n md => [(4, 12), (8, 44), (4, n.val), (2, md.code)]
  | .satMrf md => [(4, 12), (8, 45), (2, md.code)]
  | .satMrb md => [(4, 12), (8, 46), (2, md.code)]
  | .rndRMrf n sg => [(4, 12), (8, 47), (4, n.val), (1, sg.code)]
  | .rndRMrb n sg => [(4, 12), (8, 48), (4, n.val), (1, sg.code)]
  | .rndMrf sg => [(4, 12), (8, 49), (1, sg.code)]
  | .rndMrb sg => [(4, 12), (8, 50), (1, sg.code)]
  | .clrMrf => [(4, 12), (8, 51)]
  | .clrMrb => [(4, 12), (8, 52)]
  | .rdMr0f n => [(4, 12), (8, 53), (4, n.val)]
  | .rdMr1f n => [(4, 12), (8, 54), (4, n.val)]
  | .rdMr2f n => [(4, 12), (8, 55), (4, n.val)]
  | .rdMr0b n => [(4, 12), (8, 56), (4, n.val)]
  | .rdMr1b n => [(4, 12), (8, 57), (4, n.val)]
  | .rdMr2b n => [(4, 12), (8, 58), (4, n.val)]
  | .wrMr0f n => [(4, 12), (8, 59), (4, n.val)]
  | .wrMr1f n => [(4, 12), (8, 60), (4, n.val)]
  | .wrMr2f n => [(4, 12), (8, 61), (4, n.val)]
  | .wrMr0b n => [(4, 12), (8, 62), (4, n.val)]
  | .wrMr1b n => [(4, 12), (8, 63), (4, n.val)]
  | .wrMr2b n => [(4, 12), (8, 64), (4, n.val)]
  | .fMul n x y => [(4, 12), (8, 65), (4, n.val), (4, x.val), (4, y.val)]
  | .lshift n x y => [(4, 12), (8, 66), (4, n.val), (4, x.val), (4, y.val)]
  | .lshiftImm n x d => [(4, 10), (4, 0), (4, n.val), (4, x.val), (8, d.toNat)]
  | .orLshift n x y => [(4, 12), (8, 67), (4, n.val), (4, x.val), (4, y.val)]
  | .orLshiftImm n x d => [(4, 10), (4, 1), (4, n.val), (4, x.val), (8, d.toNat)]
  | .ashift n x y => [(4, 12), (8, 68), (4, n.val), (4, x.val), (4, y.val)]
  | .ashiftImm n x d => [(4, 10), (4, 2), (4, n.val), (4, x.val), (8, d.toNat)]
  | .orAshift n x y => [(4, 12), (8, 69), (4, n.val), (4, x.val), (4, y.val)]
  | .orAshiftImm n x d => [(4, 10), (4, 3), (4, n.val), (4, x.val), (8, d.toNat)]
  | .rot n x y => [(4, 12), (8, 70), (4, n.val), (4, x.val), (4, y.val)]
  | .rotImm n x d => [(4, 10), (4, 4), (4, n.val), (4, x.val), (8, d.toNat)]
  | .bclr n x y => [(4, 12), (8, 71), (4, n.val), (4, x.val), (4, y.val)]
  | .bclrImm n x d => [(4, 10), (4, 5), (4, n.val), (4, x.val), (8, d.toNat)]
  | .bset n x y => [(4, 12), (8, 72), (4, n.val), (4, x.val), (4, y.val)]
  | .bsetImm n x d => [(4, 10), (4, 6), (4, n.val), (4, x.val), (8, d.toNat)]
  | .btgl n x y => [(4, 12), (8, 73), (4, n.val), (4, x.val), (4, y.val)]
  | .btglImm n x d => [(4, 10), (4, 7), (4, n.val), (4, x.val), (8, d.toNat)]
  | .btst x y => [(4, 12), (8, 74), (4, x.val), (4, y.val)]
  | .btstImm x d => [(4, 10), (4, 8), (4, x.val), (8, d.toNat)]
  | .fdep n x y => [(4, 12), (8, 75), (4, n.val), (4, x.val), (4, y.val)]
  | .fdepImm n x bit len => [(4, 0), (4, n.val), (4, x.val), (6, bit.toNat), (6, len.toNat)]
  | .orFdep n x y => [(4, 12), (8, 76), (4, n.val), (4, x.val), (4, y.val)]
  | .orFdepImm n x bit len => [(4, 1), (4, n.val), (4, x.val), (6, bit.toNat), (6, len.toNat)]
  | .fdepSe n x y => [(4, 12), (8, 77), (4, n.val), (4, x.val), (4, y.val)]
  | .fdepSeImm n x bit len => [(4, 2), (4, n.val), (4, x.val), (6, bit.toNat), (6, len.toNat)]
  | .orFdepSe n x y => [(4, 12), (8, 78), (4, n.val), (4, x.val), (4, y.val)]
  | .orFdepSeImm n x bit len => [(4, 3), (4, n.val), (4, x.val), (6, bit.toNat), (6, len.toNat)]
  | .fext n x y => [(4, 12), (8, 79), (4, n.val), (4, x.val), (4, y.val)]
  | .fextImm n x bit len => [(4, 4), (4, n.val), (4, x.val), (6, bit.toNat), (6, len.toNat)]
  | .fextSe n x y => [(4, 12), (8, 80), (4, n.val), (4, x.val), (4, y.val)]
  | .fextSeImm n x bit len => [(4, 5), (4, n.val), (4, x.val), (6, bit.toNat), (6, len.toNat)]
  | .expo n x => [(4, 12), (8, 81), (4, n.val), (4, x.val)]
  | .expoEx n x => [(4, 12), (8, 82), (4, n.val), (4, x.val)]
  | .leftz n x => [(4, 12), (8, 83), (4, n.val), (4, x.val)]
  | .lefto n x => [(4, 12), (8, 84), (4, n.val), (4, x.val)]
  | .fpack n x => [(4, 12), (8, 85), (4, n.val), (4, x.val)]
  | .funpack n x => [(4, 12), (8, 86), (4, n.val), (4, x.val)]
  | .dualAddSub a s x y => [(4, 9), (4, 8), (4, a.val), (4, s.val), (4, x.val), (4, y.val)]
  | .dualFAddSub a s x y => [(4, 9), (4, 9), (4, a.val), (4, s.val), (4, x.val), (4, y.val)]
  | .mulRWithAdd m a xm ym xa ya => [(4, 8), (4, 0), (4, m.val), (4, a.val), (2, xm.val), (2, ym.val), (2, xa.val), (2, ya.val)]
  | .mulRWithSub m a xm ym xa ya => [(4, 8), (4, 1), (4, m.val), (4, a.val), (2, xm.val), (2, ym.val), (2, xa.val), (2, ya.val)]
  | .mulRWithAvg m a xm ym xa ya => [(4, 8), (4, 2), (4, m.val), (4, a.val), (2, xm.val), (2, ym.val), (2, xa.val), (2, ya.val)]
  | .macAddMrfWithAdd a xm ym xa ya => [(4, 8), (4, 3), (4, a.val), (2, xm.val), (2, ym.val), (2, xa.val), (2, ya.val)]
  | .macAddMrfWithSub a xm ym xa ya => [(4, 8), (4, 4), (4, a.val), (2, xm.val), (2, ym.val), (2, xa.val), (2, ya.val)]
  | .macAddMrfWithAvg a xm ym xa ya => [(4, 8), (4, 5), (4, a.val), (2, xm.val), (2, ym.val), (2, xa.val), (2, ya.val)]
  | .macAddRMrfWithAdd m a xm ym xa ya => [(4, 8), (4, 6), (4, m.val), (4, a.val), (2, xm.val), (2, ym.val), (2, xa.val), (2, ya.val)]
  | .macAddRMrfWithSub m a xm ym xa ya => [(4, 8), (4, 7), (4, m.val), (4, a.val), (2, xm.val), (2, ym.val), (2, xa.val), (2, ya.val)]
  | .macAddRMrfWithAvg m a xm ym xa ya => [(4, 8), (4, 8), (4, m.val), (4, a.val), (2, xm.val), (2, ym.val), (2, xa.val), (2, ya.val)]
  | .macSubMrfWithAdd a xm ym xa ya => [(4, 8), (4, 9), (4, a.val), (2, xm.val), (2, ym.val), (2, xa.val), (2, ya.val)]
  | .macSubMrfWithSub a xm ym xa ya => [(4, 8), (4, 10), (4, a.val), (2, xm.val), (2, ym.val), (2, xa.val), (2, ya.val)]
  | .macSubMrfWithAvg a xm ym xa ya => [(4, 8), (4, 11), (4, a.val), (2, xm.val), (2, ym.val), (2, xa.val), (2, ya.val)]
  | .macSubRMrfWithAdd m a xm ym xa ya => [(4, 8), (4, 12), (4, m.val), (4, a.val), (2, xm.val), (2, ym.val), (2, xa.val), (2, ya.val)]
  | .macSubRMrfWithSub m a xm ym xa ya => [(4, 8), (4, 13), (4, m.val), (4, a.val), (2, xm.val), (2, ym.val), (2, xa.val), (2, ya.val)]
  | .macSubRMrfWithAvg m a xm ym xa ya => [(4, 8), (4, 14), (4, m.val), (4, a.val), (2, xm.val), (2, ym.val), (2, xa.val), (2, ya.val)]
  | .fMulWithFAdd m a xm ym xa ya => [(4, 9), (4, 0), (4, m.val), (4, a.val), (2, xm.val), (2, ym.val), (2, xa.val), (2, ya.val)]
  | .fMulWithFSub m a xm ym xa ya => [(4, 9), (4, 1), (4, m.val), (4, a.val), (2, xm.val), (2, ym.val), (2, xa.val), (2, ya.val)]
  | .fMulWithFloatBy m a xm ym xa ya => [(4, 9), (4, 2), (4, m.val), (4, a.val), (2, xm.val), (2, ym.val), (2, xa.val), (2, ya.val)]
  | .fMulWithFixBy m a xm ym xa ya => [(4, 9), (4, 3), (4, m.val), (4, a.val), (2, xm.val), (2, ym.val), (2, xa.val), (2, ya.val)]
  | .fMulWithFAvg m a xm ym xa ya => [(4, 9), (4, 4), (4, m.val), (4, a.val), (2, xm.val), (2, ym.val), (2, xa.val), (2, ya.val)]
  | .fMulWithFAbs m a xm ym xa => [(4, 9), (4, 5), (4, m.val), (4, a.val), (2, xm.val), (2, ym.val), (2, xa.val)]
  | .fMulWithFMax m a xm ym xa ya => [(4, 9), (4, 6), (4, m.val), (4, a.val), (2, xm.val), (2, ym.val), (2, xa.val), (2, ya.val)]
  | .fMulWithFMin m a xm ym xa ya => [(4, 9), (4, 7), (4, m.val), (4, a.val), (2, xm.val), (2, ym.val), (2, xa.val), (2, ya.val)]
  | .mulRWithDual m a s xm ym xa ya => [(4, 6), (4, m.val), (4, a.val), (4, s.val), (2, xm.val), (2, ym.val), (2, xa.val), (2, ya.val)]
  | .fMulWithDual m a s xm ym xa ya => [(4, 7), (4, m.val), (4, a.val), (4, s.val), (2, xm.val), (2, ym.val), (2, xa.val), (2, ya.val)]

/-- The 24-bit field of a computation. -/
def Compute.code (c : Compute) : Nat := pack c.fields

/-- The 24-bit compute slot of an instruction. -/
def slotCode : Option Compute → Nat
  | none => 15
  | some c => c.code

/-- The 11-bit field of one side of the two-move form. -/
def DualSide.code (d : DualSide) : Nat := pack [(1, bit1 d.store), (4, d.reg.val), (3, d.i.val), (3, d.m.val)]

/-- The head of an instruction of the last group: bits 1-0 and its 6-bit code. -/
def head (k : Nat) : List (Nat × Nat) := [(2, 3), (6, k)]

/-- A move through a DAG register. -/
def dagMoveFields (form : Nat) (cond : Cond) (c : Option Compute) (u : Ureg) (i m : Fin 8) : List (Nat × Nat) :=
  [(2, 1), (3, form), (5, cond.code), (24, slotCode c), (7, u.code), (3, i.val), (3, m.val)]

/-- A branch to an absolute address. -/
def absFields (k : Nat) (cond : Cond) (mods : List (Nat × Nat)) (a : A24) : List (Nat × Nat) :=
  head k ++ [(5, cond.code)] ++ mods ++ [(24, a.toNat)]

/-- A PC-relative branch: code `k` with a 24-bit offset, code `k + 1` with a compute and a 6-bit offset (R143). -/
def relFields (k : Nat) (cond : Cond) (mods : List (Nat × Nat)) (off : A24) : Option Compute → List (Nat × Nat)
  | none => head k ++ [(5, cond.code)] ++ mods ++ [(24, off.toNat)]
  | some c => head (k + 1) ++ [(5, cond.code)] ++ mods ++ [(24, c.code), (6, off.toNat % 64)]

/-- A branch through DAG2. -/
def indFields (k : Nat) (cond : Cond) (mods : List (Nat × Nat)) (m i : Fin 8) (c : Option Compute) :
    List (Nat × Nat) :=
  head k ++ [(5, cond.code)] ++ mods ++ [(24, slotCode c), (3, m.val), (3, i.val)]

/-- A jump of any target, with codes from `k` on. -/
def targetFields (k : Nat) (cond : Cond) (mods : List (Nat × Nat)) (t : Target) (c : Option Compute) :
    List (Nat × Nat) :=
  match t with
  | .abs a => absFields k cond mods a
  | .rel off => relFields (k + 1) cond mods off c
  | .ind m i => indFields (k + 3) cond mods m i c

/-- A return. -/
def retFields (k : Nat) (cond : Cond) (db : Bool) (c : Option Compute) : List (Nat × Nat) :=
  head k ++ [(5, cond.code), (1, bit1 db), (24, slotCode c)]

/-- A bit manipulation. -/
def bitFields (k : Nat) (r : Sreg) (v : W32) : List (Nat × Nat) := head k ++ [(4, r.code), (32, v.toNat)]

/-- A computation written alone. -/
def aloneFields (c : Compute) : List (Nat × Nat) := head 0 ++ [(24, c.code)]

/-- The fields of an instruction word. -/
def Instr.fields : Instr → List (Nat × Nat)
  | .rAdd n x y => aloneFields (.rAdd n x y)
  | .rSub n x y => aloneFields (.rSub n x y)
  | .rAddCi n x y => aloneFields (.rAddCi n x y)
  | .rSubCi n x y => aloneFields (.rSubCi n x y)
  | .rAvg n x y => aloneFields (.rAvg n x y)
  | .rComp x y => aloneFields (.rComp x y)
  | .rPlusCi n x => aloneFields (.rPlusCi n x)
  | .rPlusCiLess1 n x => aloneFields (.rPlusCiLess1 n x)
  | .rInc n x => aloneFields (.rInc n x)
  | .rDec n x => aloneFields (.rDec n x)
  | .rNeg n x => aloneFields (.rNeg n x)
  | .rAbs n x => aloneFields (.rAbs n x)
  | .rPass n x => aloneFields (.rPass n x)
  | .rAnd n x y => aloneFields (.rAnd n x y)
  | .rOr n x y => aloneFields (.rOr n x y)
  | .rXor n x y => aloneFields (.rXor n x y)
  | .rNot n x => aloneFields (.rNot n x)
  | .rMin n x y => aloneFields (.rMin n x y)
  | .rMax n x y => aloneFields (.rMax n x y)
  | .rClip n x y => aloneFields (.rClip n x y)
  | .fAdd n x y => aloneFields (.fAdd n x y)
  | .fSub n x y => aloneFields (.fSub n x y)
  | .fAbsAdd n x y => aloneFields (.fAbsAdd n x y)
  | .fAbsSub n x y => aloneFields (.fAbsSub n x y)
  | .fAvg n x y => aloneFields (.fAvg n x y)
  | .fComp x y => aloneFields (.fComp x y)
  | .fNeg n x => aloneFields (.fNeg n x)
  | .fAbs n x => aloneFields (.fAbs n x)
  | .fPass n x => aloneFields (.fPass n x)
  | .fRnd n x => aloneFields (.fRnd n x)
  | .fScalb n x y => aloneFields (.fScalb n x y)
  | .fMant n x => aloneFields (.fMant n x)
  | .fLogb n x => aloneFields (.fLogb n x)
  | .fFixBy n x y => aloneFields (.fFixBy n x y)
  | .fFix n x => aloneFields (.fFix n x)
  | .fFloatBy n x y => aloneFields (.fFloatBy n x y)
  | .fFloat n x => aloneFields (.fFloat n x)
  | .fRecips n x => aloneFields (.fRecips n x)
  | .fRsqrts n x => aloneFields (.fRsqrts n x)
  | .fCopysign n x y => aloneFields (.fCopysign n x y)
  | .fMin n x y => aloneFields (.fMin n x y)
  | .fMax n x y => aloneFields (.fMax n x y)
  | .fClip n x y => aloneFields (.fClip n x y)
  | .mulR n x y md => aloneFields (.mulR n x y md)
  | .mulMrf x y md => aloneFields (.mulMrf x y md)
  | .mulMrb x y md => aloneFields (.mulMrb x y md)
  | .macAddRMrf n x y md => aloneFields (.macAddRMrf n x y md)
  | .macAddRMrb n x y md => aloneFields (.macAddRMrb n x y md)
  | .macAddMrf x y md => aloneFields (.macAddMrf x y md)
  | .macAddMrb x y md => aloneFields (.macAddMrb x y md)
  | .macSubRMrf n x y md => aloneFields (.macSubRMrf n x y md)
  | .macSubRMrb n x y md => aloneFields (.macSubRMrb n x y md)
  | .macSubMrf x y md => aloneFields (.macSubMrf x y md)
  | .macSubMrb x y md => aloneFields (.macSubMrb x y md)
  | .satRMrf n md => aloneFields (.satRMrf n md)
  | .satRMrb n md => aloneFields (.satRMrb n md)
  | .satMrf md => aloneFields (.satMrf md)
  | .satMrb md => aloneFields (.satMrb md)
  | .rndRMrf n sg => aloneFields (.rndRMrf n sg)
  | .rndRMrb n sg => aloneFields (.rndRMrb n sg)
  | .rndMrf sg => aloneFields (.rndMrf sg)
  | .rndMrb sg => aloneFields (.rndMrb sg)
  | .clrMrf => aloneFields .clrMrf
  | .clrMrb => aloneFields .clrMrb
  | .rdMr0f n => aloneFields (.rdMr0f n)
  | .rdMr1f n => aloneFields (.rdMr1f n)
  | .rdMr2f n => aloneFields (.rdMr2f n)
  | .rdMr0b n => aloneFields (.rdMr0b n)
  | .rdMr1b n => aloneFields (.rdMr1b n)
  | .rdMr2b n => aloneFields (.rdMr2b n)
  | .wrMr0f n => aloneFields (.wrMr0f n)
  | .wrMr1f n => aloneFields (.wrMr1f n)
  | .wrMr2f n => aloneFields (.wrMr2f n)
  | .wrMr0b n => aloneFields (.wrMr0b n)
  | .wrMr1b n => aloneFields (.wrMr1b n)
  | .wrMr2b n => aloneFields (.wrMr2b n)
  | .fMul n x y => aloneFields (.fMul n x y)
  | .lshift n x y => aloneFields (.lshift n x y)
  | .lshiftImm n x d => aloneFields (.lshiftImm n x d)
  | .orLshift n x y => aloneFields (.orLshift n x y)
  | .orLshiftImm n x d => aloneFields (.orLshiftImm n x d)
  | .ashift n x y => aloneFields (.ashift n x y)
  | .ashiftImm n x d => aloneFields (.ashiftImm n x d)
  | .orAshift n x y => aloneFields (.orAshift n x y)
  | .orAshiftImm n x d => aloneFields (.orAshiftImm n x d)
  | .rot n x y => aloneFields (.rot n x y)
  | .rotImm n x d => aloneFields (.rotImm n x d)
  | .bclr n x y => aloneFields (.bclr n x y)
  | .bclrImm n x d => aloneFields (.bclrImm n x d)
  | .bset n x y => aloneFields (.bset n x y)
  | .bsetImm n x d => aloneFields (.bsetImm n x d)
  | .btgl n x y => aloneFields (.btgl n x y)
  | .btglImm n x d => aloneFields (.btglImm n x d)
  | .btst x y => aloneFields (.btst x y)
  | .btstImm x d => aloneFields (.btstImm x d)
  | .fdep n x y => aloneFields (.fdep n x y)
  | .fdepImm n x bit len => aloneFields (.fdepImm n x bit len)
  | .orFdep n x y => aloneFields (.orFdep n x y)
  | .orFdepImm n x bit len => aloneFields (.orFdepImm n x bit len)
  | .fdepSe n x y => aloneFields (.fdepSe n x y)
  | .fdepSeImm n x bit len => aloneFields (.fdepSeImm n x bit len)
  | .orFdepSe n x y => aloneFields (.orFdepSe n x y)
  | .orFdepSeImm n x bit len => aloneFields (.orFdepSeImm n x bit len)
  | .fext n x y => aloneFields (.fext n x y)
  | .fextImm n x bit len => aloneFields (.fextImm n x bit len)
  | .fextSe n x y => aloneFields (.fextSe n x y)
  | .fextSeImm n x bit len => aloneFields (.fextSeImm n x bit len)
  | .expo n x => aloneFields (.expo n x)
  | .expoEx n x => aloneFields (.expoEx n x)
  | .leftz n x => aloneFields (.leftz n x)
  | .lefto n x => aloneFields (.lefto n x)
  | .fpack n x => aloneFields (.fpack n x)
  | .funpack n x => aloneFields (.funpack n x)
  | .dualAddSub a s x y => aloneFields (.dualAddSub a s x y)
  | .dualFAddSub a s x y => aloneFields (.dualFAddSub a s x y)
  | .mulRWithAdd m a xm ym xa ya => aloneFields (.mulRWithAdd m a xm ym xa ya)
  | .mulRWithSub m a xm ym xa ya => aloneFields (.mulRWithSub m a xm ym xa ya)
  | .mulRWithAvg m a xm ym xa ya => aloneFields (.mulRWithAvg m a xm ym xa ya)
  | .macAddMrfWithAdd a xm ym xa ya => aloneFields (.macAddMrfWithAdd a xm ym xa ya)
  | .macAddMrfWithSub a xm ym xa ya => aloneFields (.macAddMrfWithSub a xm ym xa ya)
  | .macAddMrfWithAvg a xm ym xa ya => aloneFields (.macAddMrfWithAvg a xm ym xa ya)
  | .macAddRMrfWithAdd m a xm ym xa ya => aloneFields (.macAddRMrfWithAdd m a xm ym xa ya)
  | .macAddRMrfWithSub m a xm ym xa ya => aloneFields (.macAddRMrfWithSub m a xm ym xa ya)
  | .macAddRMrfWithAvg m a xm ym xa ya => aloneFields (.macAddRMrfWithAvg m a xm ym xa ya)
  | .macSubMrfWithAdd a xm ym xa ya => aloneFields (.macSubMrfWithAdd a xm ym xa ya)
  | .macSubMrfWithSub a xm ym xa ya => aloneFields (.macSubMrfWithSub a xm ym xa ya)
  | .macSubMrfWithAvg a xm ym xa ya => aloneFields (.macSubMrfWithAvg a xm ym xa ya)
  | .macSubRMrfWithAdd m a xm ym xa ya => aloneFields (.macSubRMrfWithAdd m a xm ym xa ya)
  | .macSubRMrfWithSub m a xm ym xa ya => aloneFields (.macSubRMrfWithSub m a xm ym xa ya)
  | .macSubRMrfWithAvg m a xm ym xa ya => aloneFields (.macSubRMrfWithAvg m a xm ym xa ya)
  | .fMulWithFAdd m a xm ym xa ya => aloneFields (.fMulWithFAdd m a xm ym xa ya)
  | .fMulWithFSub m a xm ym xa ya => aloneFields (.fMulWithFSub m a xm ym xa ya)
  | .fMulWithFloatBy m a xm ym xa ya => aloneFields (.fMulWithFloatBy m a xm ym xa ya)
  | .fMulWithFixBy m a xm ym xa ya => aloneFields (.fMulWithFixBy m a xm ym xa ya)
  | .fMulWithFAvg m a xm ym xa ya => aloneFields (.fMulWithFAvg m a xm ym xa ya)
  | .fMulWithFAbs m a xm ym xa => aloneFields (.fMulWithFAbs m a xm ym xa)
  | .fMulWithFMax m a xm ym xa ya => aloneFields (.fMulWithFMax m a xm ym xa ya)
  | .fMulWithFMin m a xm ym xa ya => aloneFields (.fMulWithFMin m a xm ym xa ya)
  | .mulRWithDual m a s xm ym xa ya => aloneFields (.mulRWithDual m a s xm ym xa ya)
  | .fMulWithDual m a s xm ym xa ya => aloneFields (.fMulWithDual m a s xm ym xa ya)
  | .uregMove cond c dst src => [(2, 2), (5, cond.code), (24, slotCode c), (7, dst.code), (7, src.code)]
  | .loadImm dst v => head 2 ++ [(7, dst.code), (32, v.toNat)]
  | .ldDmPost cond c dst i m => dagMoveFields 0 cond c dst i m
  | .stDmPost cond c i m src => dagMoveFields 1 cond c src i m
  | .ldPmPost cond c dst i m => dagMoveFields 2 cond c dst i m
  | .stPmPost cond c i m src => dagMoveFields 3 cond c src i m
  | .ldDmPre cond c dst m i => dagMoveFields 4 cond c dst i m
  | .stDmPre cond c m i src => dagMoveFields 5 cond c src i m
  | .ldPmPre cond c dst m i => dagMoveFields 6 cond c dst i m
  | .stPmPre cond c m i src => dagMoveFields 7 cond c src i m
  | .ldDmAbs dst addr => head 3 ++ [(7, dst.code), (32, addr.toNat)]
  | .stDmAbs addr src => head 4 ++ [(7, src.code), (32, addr.toNat)]
  | .ldPmAbs dst addr => head 5 ++ [(7, dst.code), (24, addr.toNat)]
  | .stPmAbs addr src => head 6 ++ [(7, src.code), (24, addr.toNat)]
  | .dualMove _ c dm pm => [(2, 0), (24, slotCode c), (11, dm.code), (11, pm.code)]
  | .compute cond c => head 1 ++ [(5, cond.code), (24, c.code)]
  | .jumpAbs cond addr db _ => absFields 7 cond [(1, bit1 db)] addr
  | .jumpRel cond off db c => relFields 8 cond [(1, bit1 db)] off c
  | .jumpInd cond m i db c => indFields 10 cond [(1, bit1 db)] m i c
  | .callAbs cond addr db _ => absFields 11 cond [(1, bit1 db)] addr
  | .callRel cond off db c => relFields 12 cond [(1, bit1 db)] off c
  | .callInd cond m i db c => indFields 14 cond [(1, bit1 db)] m i c
  | .rts cond db c => retFields 15 cond db c
  | .rtsLr cond db c => retFields 16 cond db c
  | .rti cond db c => retFields 17 cond db c
  | .jumpLa cond t db ci c => targetFields 18 cond [(1, bit1 db), (1, bit1 ci)] t c
  | .jumpCi cond t db c => targetFields 22 cond [(1, bit1 db)] t c
  | .doAbs addr term => head 26 ++ [(5, term.code), (24, addr.toNat)]
  | .doRel off term => head 27 ++ [(5, term.code), (24, off.toNat)]
  | .doCountImm v d => head 28 ++ [(24, d.addr.toNat), (16, v.toNat)]
  | .doCountUreg src d => head 29 ++ [(24, d.addr.toNat), (7, src.code), (5, d.term.code)]
  | .bitSet r v => bitFields 30 r v
  | .bitClr r v => bitFields 31 r v
  | .bitTgl r v => bitFields 32 r v
  | .bitTst r v => bitFields 33 r v
  | .bitXor r v => bitFields 34 r v
  | .pushLoop a b => head 35 ++ [(2, a.code), (2, b.code)]
  | .popLoop a b => head 36 ++ [(2, a.code), (2, b.code)]
  | .pushSts a => head 37 ++ [(2, a.code)]
  | .popSts a => head 38 ++ [(2, a.code)]
  | .pushPcstk => head 39
  | .popPcstk => head 40
  | .idle16 => head 41
  | .idle => head 42
  | .nop => head 43

/-- The 48-bit word of a well-formed instruction, in the model's own layout. -/
def encode (i : Instr) : W48 := BitVec.ofNat 48 (pack i.fields)

end Sys2Proof
end

