-- ==== Sys2Proof/Config.lean ====
section
/-! DEFINITION. What an implementation fixes, and the free values.

The parameters that 00_scope.md R9 and the table of 92_eei_decisions.md leave open are plain data (`Params`), carried
unchanged by the state, so that a statement about every state holds for every choice of them. The values the spec
leaves open at each use (`draw`, R13) are opaque constants with no body: nothing can evaluate them. -/

namespace Sys2Proof

/-- The three processors (R1, R3); the only instruction-set difference is IDLE16 (R152). -/
inductive Part where
  | adsp21060
  | adsp21062
  | adsp21061
deriving DecidableEq, Repr

/-- `MemBits`: internal memory in bits (R3, R8, R102). -/
def Part.memBits : Part → Nat
  | .adsp21060 => 4 * 2 ^ 20
  | .adsp21062 => 2 * 2 ^ 20
  | .adsp21061 => 2 ^ 20

/-- The most 32-bit data words internal memory can be configured for (R8, R102). -/
def Part.maxWords32 : Part → Nat
  | .adsp21060 => 128 * 1024
  | .adsp21062 => 64 * 1024
  | .adsp21061 => 32 * 1024

/-- The most 16-bit data words (R8, R102). -/
def Part.maxWords16 : Part → Nat
  | .adsp21060 => 256 * 1024
  | .adsp21062 => 128 * 1024
  | .adsp21061 => 64 * 1024

/-- The most 48-bit instruction words and 40-bit data words (R8, R102). -/
def Part.maxWords48 : Part → Nat
  | .adsp21060 => 80 * 1024
  | .adsp21062 => 40 * 1024
  | .adsp21061 => 16 * 1024

/-- Link ports (R3, R8). -/
def Part.linkPorts : Part → Nat
  | .adsp21060 => 6
  | .adsp21062 => 6
  | .adsp21061 => 0

/-- DMA channels (R3, R8). -/
def Part.dmaChannels : Part → Nat
  | .adsp21060 => 10
  | .adsp21062 => 10
  | .adsp21061 => 6

/-- How the chip was booted (R512, R573). `noBoot` executes from off-chip memory. -/
inductive BootMode where
  | eprom
  | host
  | link
  | noBoot
deriving DecidableEq, Repr

/-- The configured width of a memory word (R103, R106). -/
inductive WordWidth where
  | w32
  | w40
  | w48
deriving DecidableEq, Repr

/-- What `MemMap` and `DataWidth` say of an address (R103, R106). -/
inductive RegionKind where
  /-- A normal word of internal block 0 or 1, of the configured width. -/
  | internal (block : Fin 2) (width : WordWidth)
  /-- The 16-bit view of internal memory (R109). -/
  | internalShort
  /-- The I/O processor's registers: a device (R115). -/
  | iopReg
  /-- Internal memory of the processor `id`, 1 to 6, or 7 for a broadcast (R103): a device here (R543). -/
  | multiprocessor (id : Fin 8)
  /-- Off-chip memory (R101). -/
  | external (width : WordWidth)
  /-- No memory: an access faults (R104, R105). -/
  | unmapped
deriving DecidableEq, Repr

/-- One line of the memory map: the addresses `first` to `last` are of kind `kind` (R103). -/
structure Region where
  first : Nat
  last : Nat
  kind : RegionKind
deriving DecidableEq, Repr

/-- The fields of the record `Numerics` (R217): the floating-point operations of the ALU, the multiplier's product (R292),
FPACK and FUNPACK (R332, R333), and the fixed-point average, CLIP and COMP (R177, R192, R178; G8). -/
inductive NumericOp where
  | fAdd | fSub | fAbsAdd | fAbsSub | fAvg | fComp | fNeg | fAbs | fPass | fRnd | fScalb | fMant | fLogb | fFixBy | fFix
  | fFloatBy | fFloat | fRecips | fRsqrts | fCopysign | fMin | fMax | fClip | fMul | fpack | funpack | rAvg | rClip | rComp
deriving DecidableEq, Repr

/-- What a field of `Numerics` is applied to (R217): its operands and the modes. A floating-point operand is the register's
content, before R211's conditioning, so that what is a NAN (U14) is the record's to say; a fixed-point one stands in bits
39-8 with zeros below; a missing one is 0. -/
structure NumericIn where
  op : NumericOp
  x : W40
  y : W40
  trunc : Bool
  rnd32 : Bool
  alusat : Bool
deriving DecidableEq, Repr

/-- What a field of `Numerics` answers: the word and its flags, those of the multiplier and the shifter in the places of
the ALU's (`av` is MV and SV, `unf` underflow, `ai` MI). `az`, `an` and `as` are read where the rules R211 to R216 do not fix
them by the word or the operand: of an invalid result, and AS of a NAN. The word of a comparison is 0 for equal, has bit 39
set for less, and is any other for greater. -/
structure NumericOut where
  word : W40
  az : Bool
  av : Bool
  an : Bool
  as : Bool
  ai : Bool
  unf : Bool
deriving DecidableEq, Repr

/-- The first operand is a floating-point number. -/
def NumericOp.floatX : NumericOp → Bool
  | .fFloatBy | .fFloat | .fpack | .funpack | .rAvg | .rClip | .rComp => false
  | .fAdd | .fSub | .fAbsAdd | .fAbsSub | .fAvg | .fComp | .fNeg | .fAbs | .fPass | .fRnd | .fScalb | .fMant | .fLogb
    | .fFixBy | .fFix | .fRecips | .fRsqrts | .fCopysign | .fMin | .fMax | .fClip | .fMul => true

/-- The second operand is a floating-point number. -/
def NumericOp.floatY : NumericOp → Bool
  | .fAdd | .fSub | .fAbsAdd | .fAbsSub | .fAvg | .fComp | .fCopysign | .fMin | .fMax | .fClip | .fMul => true
  | .fNeg | .fAbs | .fPass | .fRnd | .fScalb | .fMant | .fLogb | .fFixBy | .fFix | .fFloatBy | .fFloat | .fRecips
    | .fRsqrts | .fpack | .funpack | .rAvg | .rClip | .rComp => false

/-- The result is a fixed-point word in bits 39-8 (R212). -/
def NumericOp.yieldsFixed : NumericOp → Bool
  | .fMant | .fLogb | .fFixBy | .fFix | .fpack | .rAvg | .rClip => true
  | .fAdd | .fSub | .fAbsAdd | .fAbsSub | .fAvg | .fComp | .fNeg | .fAbs | .fPass | .fRnd | .fScalb | .fFloatBy | .fFloat
    | .fRecips | .fRsqrts | .fCopysign | .fMin | .fMax | .fClip | .fMul | .funpack | .rComp => false

/-- The operation only compares: its word is no result (R178, R225). -/
def NumericOp.compares : NumericOp → Bool
  | .fComp | .rComp => true
  | .fAdd | .fSub | .fAbsAdd | .fAbsSub | .fAvg | .fNeg | .fAbs | .fPass | .fRnd | .fScalb | .fMant | .fLogb | .fFixBy
    | .fFix | .fFloatBy | .fFloat | .fRecips | .fRsqrts | .fCopysign | .fMin | .fMax | .fClip | .fMul | .fpack | .funpack
    | .rAvg | .rClip => false

/-- The result's sign is cleared (R222, R223, R227). -/
def NumericOp.absolute : NumericOp → Bool
  | .fAbsAdd | .fAbsSub | .fAbs => true
  | .fAdd | .fSub | .fAvg | .fComp | .fNeg | .fPass | .fRnd | .fScalb | .fMant | .fLogb | .fFixBy | .fFix | .fFloatBy
    | .fFloat | .fRecips | .fRsqrts | .fCopysign | .fMin | .fMax | .fClip | .fMul | .fpack | .funpack | .rAvg | .rClip
    | .rComp => false

/-- The row marks AV, and so AVS, as computed (R243, R292, R332). -/
def NumericOp.marksAv : NumericOp → Bool
  | .fAvg | .fComp | .fPass | .fFloat | .fCopysign | .fMin | .fMax | .fClip | .funpack | .rAvg | .rClip | .rComp => false
  | .fAdd | .fSub | .fAbsAdd | .fAbsSub | .fNeg | .fAbs | .fRnd | .fScalb | .fMant | .fLogb | .fFixBy | .fFix | .fFloatBy
    | .fRecips | .fRsqrts | .fMul | .fpack => true

/-- The row marks AN as computed: not those whose sign is cleared, nor the unsigned MANT (R243). -/
def NumericOp.marksAn (op : NumericOp) : Bool := !op.absolute && op != .fMant

/-- The row marks AUS (MUS) as computed (R243, R292). -/
def NumericOp.marksUnderflow : NumericOp → Bool
  | .fAdd | .fSub | .fAbsAdd | .fAbsSub | .fAvg | .fScalb | .fFixBy | .fFix | .fFloatBy | .fRecips | .fMul => true
  | .fComp | .fNeg | .fAbs | .fPass | .fRnd | .fMant | .fLogb | .fFloat | .fRsqrts | .fCopysign | .fMin | .fMax | .fClip
    | .fpack | .funpack | .rAvg | .rClip | .rComp => false

/-- What is invalid beside a NAN operand is not in D0 (R231, R238). -/
def NumericOp.invalidOpen (op : NumericOp) : Bool := op == .fMant || op == .fRsqrts

/-- What an invalid result other than of a NAN operand holds is not in D0 (R231, R233, R238). -/
def NumericOp.invalidWordOpen (op : NumericOp) : Bool := op.invalidOpen || op == .fFix || op == .fFixBy

/-- The low eight bits of the result are zero under these values of RND32: a rounded floating-point result under RND32
(R212); RND's and FUNPACK's always (R229, R333), and a fixed-point one's; FLOAT's never (R212). -/
def NumericOp.short (rnd32 : Bool) : NumericOp → Bool
  | .fRnd | .funpack => true
  | .fComp | .rComp | .fFloatBy | .fFloat => false
  | .fMant | .fLogb | .fFixBy | .fFix | .fpack | .rAvg | .rClip => true
  | .fAdd | .fSub | .fAbsAdd | .fAbsSub | .fAvg | .fNeg | .fAbs | .fPass | .fScalb | .fRecips | .fRsqrts | .fCopysign
    | .fMin | .fMax | .fClip | .fMul => rnd32

/-- The open parameters of the model (R9; 92_eei_decisions.md section 1). No instruction changes them. -/
structure Params where
  /-- `Part` (R3). -/
  part : Part
  /-- `BootMode` (D31). -/
  bootMode : BootMode
  /-- SYSCON.IIVT, the one IOP register bit that reaches the core (R62, R512). -/
  iivt : Bool
  /-- `MemMap` and `DataWidth` together (D2, D4); an address in no region is unmapped. -/
  regions : List Region
  /-- `ShortWordMap` (D3): the first short-word address. -/
  shortBase : Nat
  /-- `ShortWordMap`: the normal word that holds the first two short words. -/
  shortTarget : Nat
  /-- `ShortWordMap`: whether an even short-word address names the least significant half. -/
  shortEvenIsLow : Bool
  /-- `ShortWordMap`: short-word addresses placed otherwise, with their normal word and whether its least significant
  half is named; so the map is any map. -/
  shortPlaces : List (Nat × (Nat × Bool))
  /-- `Decode` (D1): words whose meaning differs from the model's own layout (log entry 1), with the instruction they
  are or `none`; so the decoder is any decoder, and every form of R146 has a word in some of them. -/
  decodes : List (W48 × Option Instr)
  /-- `Numerics` (D21, R217): results that differ from the reference definitions of R220 to R242, R292, R332, R333, R177,
  R178 and R192, so that the record is any record within R211 to R216 and the rows of R243; none by default (log entry
  20). -/
  numerics : List (NumericIn × NumericOut)
  /-- `EnvWritable` (D6): address ranges (first, last) the environment may write. -/
  envWritable : List (Nat × Nat)
  /-- `STS_DEPTH` (D17). -/
  stsDepth : Nat
  /-- `IRQ_DELAY_MAX` (D14). -/
  irqDelayMax : Nat
  /-- `HaltAddr` (D19). -/
  haltAddr : Option A24
  /-- `ProcessorID` (D20); no rule uses it. -/
  processorId : Fin 7
  /-- `BootImage` (D31): the memory the boot left, as cells of the model's memory. -/
  bootImage : List Host.Cell
deriving DecidableEq, Repr

/-- Normal words of 32 bits in one block of internal memory: half of it (R3, R102). -/
def Part.blockWords (p : Part) : Nat := p.memBits / 64

/-- The default memory map: the standard map of R103, its internal memory as large as the part's (R3, R102). The split
into 48-bit (instruction) and 32-bit (data) words inside internal block 0 and off-chip memory, and block 1 right after
block 0, are the model's (log entry 5): 2048 instructions take the room of 3072 data words. -/
def Config.defaultRegions (p : Part) : List Region :=
  [ ⟨0x00000000, 0x000000FF, .iopReg⟩,
    ⟨0x00020000, 0x000207FF, .internal 0 .w48⟩,
    ⟨0x00020C00, 0x0001FFFF + p.blockWords, .internal 0 .w32⟩,
    ⟨0x00020000 + p.blockWords, 0x0001FFFF + 2 * p.blockWords, .internal 1 .w32⟩,
    ⟨0x00040000, 0x0003FFFF + 4 * p.blockWords, .internalShort⟩,
    ⟨0x00080000, 0x000FFFFF, .multiprocessor 1⟩,
    ⟨0x00100000, 0x0017FFFF, .multiprocessor 2⟩,
    ⟨0x00180000, 0x001FFFFF, .multiprocessor 3⟩,
    ⟨0x00200000, 0x0027FFFF, .multiprocessor 4⟩,
    ⟨0x00280000, 0x002FFFFF, .multiprocessor 5⟩,
    ⟨0x00300000, 0x0037FFFF, .multiprocessor 6⟩,
    ⟨0x00380000, 0x003FFFFF, .multiprocessor 7⟩,
    ⟨0x00400000, 0x0040FFFF, .external .w48⟩,
    ⟨0x00410000, 0xFFFFFFFF, .external .w32⟩ ]

/-- How many addresses a region covers. -/
def Region.size (r : Region) : Nat := r.last + 1 - r.first

/-- Internal words of 32 bits that a map gives. -/
def Config.words32 : List Region → Nat
  | [] => 0
  | r :: l => (match r.kind with
    | .internal _ .w32 => r.size
    | _ => 0) + Config.words32 l

/-- Internal words of 48 bits that a map gives, and of 40 bits, which take the room of 48 (R106). -/
def Config.words48 : List Region → Nat
  | [] => 0
  | r :: l => (match r.kind with
    | .internal _ .w48 => r.size
    | .internal _ .w40 => r.size
    | _ => 0) + Config.words48 l

/-- Short words that a map gives. -/
def Config.words16 : List Region → Nat
  | [] => 0
  | r :: l => (match r.kind with
    | .internalShort => r.size
    | _ => 0) + Config.words16 l

/-- The map gives no more internal memory than the part has (R3, R8, R102). -/
def Params.fitsPart (p : Params) : Bool :=
  decide (32 * Config.words32 p.regions + 48 * Config.words48 p.regions ≤ p.part.memBits) &&
  decide (Config.words32 p.regions ≤ p.part.maxWords32) && decide (Config.words16 p.regions ≤ p.part.maxWords16) &&
  decide (Config.words48 p.regions ≤ p.part.maxWords48)

/-- The defaults of the parameter table of 92_eei_decisions.md, for a part. `BootImage` has none there: nothing is
listed. -/
def Config.paramsFor (part : Part) : Params where
  part := part
  bootMode := .eprom
  iivt := false
  regions := Config.defaultRegions part
  shortBase := 0x00040000
  shortTarget := 0x00020000
  shortEvenIsLow := true
  shortPlaces := []
  decodes := []
  numerics := []
  envWritable := []
  stsDepth := 4
  irqDelayMax := 0
  haltAddr := none
  processorId := 0
  bootImage := []

/-- The default parameters: those of the ADSP-21060. -/
def Config.params : Params := Config.paramsFor .adsp21060

/-- What a free value is drawn for. At most one draw of each kind is made in one step, so that two draws never share
an argument of `Config.draw`. -/
inductive DrawTag where
  /-- Old or new MODE1 in the instruction after an explicit write (R593, U13). -/
  | mode1Latency
  /-- Old or new MODE2 (R593). -/
  | mode2Latency
  /-- Old or new ASTAT (R593). -/
  | astatLatency
  /-- Old or new STKY, for the arithmetic interrupt request (R593, R507). -/
  | stkyLatency
  /-- Old or new IMASKP read back at once (R595). -/
  | imaskpRead
  /-- Old or new PCSTKP read back at once (R595). -/
  | pcstkpRead
  /-- FADDR outside sequential flow (D30, U11). -/
  | faddr
  /-- DADDR outside sequential flow (D30, U11). -/
  | daddr
  /-- PCSTK with the PC stack empty or overflowed, or inside a short counter loop (U8, U27). -/
  | pcstk
  /-- LADDR inside a short counter loop (U27). -/
  | laddr
  /-- CURLCNTR inside a short counter loop (U27). -/
  | curlcntr
  /-- LCNTR with the loop counter stack full, or inside a short counter loop (R40, U27). -/
  | lcntr
  /-- CURLCNTR written by the instruction whose execution also decrements it (log entry 22). -/
  | counterWrite
  /-- The counter slot a finished short loop leaves (R447). -/
  | shortCount
  /-- The counter level of a loop that is not counter-based (R38). -/
  | plainCount
  /-- The entry PUSH PCSTK exposes (R464, G55). -/
  | pushedPc
  /-- PCSTKP after a pop of the overflowed PC stack: R35 states the pop for 1 to 30 only (log entry 30). -/
  | overflowPop
  /-- The low byte of PX after a value of 40 bits or fewer is put into it: R404 names only PX bits 47-8 (log entry 12). -/
  | pxLow
  /-- NBM while MODE1 bits 18-17 are not 00 (R424, U28). -/
  | nbm
  /-- A word read over the DM bus from a device or an off-chip word nothing has placed (R104). -/
  | deviceDm
  /-- The same over the PM bus (R104). -/
  | devicePm
  /-- The index DAG1 leaves when a circular post-modify is outside R400. -/
  | circular1
  /-- Whether that DAG1 post-modify counts as a wrap. -/
  | wrapped1
  /-- The index DAG2 leaves when a circular post-modify is outside R400. -/
  | circular2
  /-- Whether that DAG2 post-modify counts as a wrap. -/
  | wrapped2
  /-- Whether a valid interrupt waits for a further boundary (R514, `IRQ_DELAY_MAX`). -/
  | irqDelay
deriving DecidableEq, Repr

/-- A value the sources leave open (`draw`, R13), for a purpose and the number of the step it is drawn in. -/
opaque Config.draw : DrawTag → Nat → BitVec 48

/-- `CLIP Rx BY Ry` with Ry = 0x8000 0000, whose magnitude is not representable (R192, G8). -/
opaque Config.clipByMinimum : W32 → W32

/-- The fraction field of the reciprocal seed, before it is brought into the accuracy R237 states: the table is in no
source. It is a function of the operand alone: TRUNC, RND32 and ALUSAT, which R217 lets a seed depend on, do not change it
(DESIGN CHOICE, log entry 34). -/
opaque Config.recipsFraction : W40 → BitVec 31

/-- Exponent and fraction of the reciprocal square root seed, where they are as accurate as R238 states: the table is in
no source. A function of the operand alone as well (DESIGN CHOICE, log entry 34). -/
opaque Config.rsqrtsMagnitude : W40 → BitVec 39

/-- Whether an FPACK result that is not exact is rounded away from zero: R332 says "rounded" and no more. It is a function
of the operand alone: TRUNC and RND32, which R217 lets the rounding depend on, do not change it (DESIGN CHOICE, log entry
33). -/
opaque Config.fpackRoundsUp : W32 → Bool

end Sys2Proof
end

