-- ==== Sys2Proof/Machine/Boot.lean ====
section
/-! DEFINITION. What the boot mode fixes: the interrupt vector base and the reset value of IMASK. -/

namespace Sys2Proof.Machine

/-- `IVT_BASE` (R512): internal if booted or if SYSCON.IIVT is 1, else external. -/
def ivtBase (p : Params) : A24 :=
  if p.bootMode = .noBoot ∧ p.iivt = false then 0x400000 else 0x020000

/-- IMASK after reset (R70, R71): bits 1-0, and bit 16 when booting from EPROM or a host. -/
def imaskReset (p : Params) : W32 :=
  match p.bootMode with
  | .eprom => 0x00010003
  | .host => 0x00010003
  | .link => 0x00000003
  | .noBoot => 0x00000003

/-- The address of the first instruction (R571): the reset vector. -/
def resetVector (p : Params) : A24 := ivtBase p + 4

end Sys2Proof.Machine
end

