-- ==== Sys2Proof/Machine/Memory.lean ====
section
/-! DEFINITION. The model's memory: a list of (key, byte) pairs with keys strictly rising. The machine addresses words
(R100); the six bytes of the 48-bit column of the word at address `a` stand at keys `8 * a` to `8 * a + 5`, least
significant first (DESIGN CHOICE, log entry 4: a representation no program can see). Every word is held as the 48-bit PM
data bus carries it (R106): 32-bit data in bits 47-16, 40-bit data in bits 47-8. A key that is not listed holds no
value: it was never written and not loaded (R104, D8). -/

namespace Sys2Proof.Machine

/-- Memory contents: listed keys only, strictly rising. -/
abbrev Memory := List Host.Cell

/-- What key `a` holds: `none` where nothing has been written or loaded. -/
def Memory.read : Memory → Nat → Option Byte
  | [], _ => none
  | (b, v) :: m, a => if a = b then some v else Memory.read m a

/-- Replace or add the byte at key `a`, keeping the keys rising. -/
def Memory.write : Memory → Nat → Byte → Memory
  | [], a, v => [(a, v)]
  | (b, w) :: m, a, v =>
    if a < b then (a, v) :: (b, w) :: m
    else if a = b then (a, v) :: m
    else (b, w) :: Memory.write m a v

/-- Every listed key lies above `a`, and the keys rise. -/
def Memory.risesAbove (a : Nat) : Memory → Bool
  | [] => true
  | (b, _) :: m => decide (a < b) && Memory.risesAbove b m

/-- The canonical form: keys strictly rising, so that equal memories are equal lists. -/
def Memory.wf : Memory → Bool
  | [] => true
  | (b, _) :: m => Memory.risesAbove b m

/-- Any list of cells brought into canonical form, later cells winning. -/
def Memory.ofCells (cells : List Host.Cell) : Memory :=
  cells.foldl (fun m c => Memory.write m c.1 c.2) []

/-- `n` bytes from key `a` upward, least significant first; `none` if any holds no value. -/
def Memory.readBytes (m : Memory) (a : Nat) : Nat → Option Nat
  | 0 => some 0
  | n + 1 =>
    match Memory.read m a, Memory.readBytes m (a + 1) n with
    | some b, some r => some (b.toNat + 256 * r)
    | _, _ => none

/-- Store the `n` low bytes of `v` from key `a` upward, least significant first. -/
def Memory.writeBytes (m : Memory) (a : Nat) : Nat → Nat → Memory
  | 0, _ => m
  | n + 1, v => Memory.writeBytes (Memory.write m a (BitVec.ofNat 8 v)) (a + 1) n (v / 256)

/-- The key of the least significant byte of the word at word address `a`. -/
def wordKey (a : Nat) : Nat := 8 * a

/-- Add a word address to a strictly rising list of addresses. -/
def insertAddr (a : Nat) : List Nat → List Nat
  | [] => [a]
  | b :: l => if a < b then a :: b :: l else if a = b then b :: l else b :: insertAddr a l

end Sys2Proof.Machine
end

