-- ==== Sys2Proof/Machine/State.lean ====
section
/-! DEFINITION. What the machine holds, why it can stop, and what reset leaves (10_state.md R20 to R72). -/

namespace Sys2Proof.Machine

/-- The model's faults. The hardware has no trap (R18, R500): each is a stop the spec's decisions ask for. -/
inductive Fault where
  /-- Raised by the fetch of a word the decoder rejects (R150, U6), and by IDLE16 on a part without it (R152, U35).
  Safe: the machine stops where the spec gives no effect. -/
  | illegalInstruction
  /-- Raised by any access or fetch at an address of no region, by a short word with no internal word under it, and by
  internal addresses of a map that gives the part more memory than it has (R8, R104, R105, D5, U4). Safe. -/
  | unmapped
  /-- Raised by a read or fetch of an internal word nothing has written and the boot did not load (R104, D8, U5).
  Safe. -/
  | unwrittenMemory
  /-- Raised by a fetch from an address that does not hold 48-bit words (R111). Safe. -/
  | notInstructionWord
  /-- The run has ended: the pc is at `HaltAddr` with no interrupt in service (D19). Safe. -/
  | runEnded
deriving DecidableEq, Repr

/-- Programs outside the model: each names a restriction the spec states and says to refuse. All are safe: nothing is
proved about such a run. -/
inductive Refusal where
  /-- An instruction with no meaning yet, by its mnemonic. Raised by the dispatcher alone. -/
  | notModelled (mnemonic : String)
  /-- Fetch of a word the core or the environment has written since boot (R121, U7). -/
  | selfModifiedCode
  /-- An instruction R440 or U3 forbids in the two locations after a delayed branch: a branch, a DO UNTIL, IDLE, a
  stack push or pop, a write of a register of the PC stack or of the loop stacks. -/
  | forbiddenInDelaySlot
  /-- A branch or DO UNTIL among the last three instructions of a loop (R449, U32). -/
  | branchAtLoopEnd
  /-- A jump or call into the last two instructions of the innermost active loop (R449, U26). -/
  | branchIntoLoopEnd
  /-- A plain RTS or an RTI to one of the last two instructions of an active counter-based loop (R437, U33), or from a CALL
  made among the last three instructions of a loop, which takes RTS (LR) (R449, U32). -/
  | plainReturnIntoLoop
  /-- JUMP (LA) with no loop active (R438, U29). -/
  | abortOutsideLoop
  /-- JUMP (LA) to the last instruction of an outer loop that is not counter-based (R438). -/
  | abortToOuterLoopEnd
  /-- Nested loops that end on one address, or a non-counter-based outer loop that ends less than two addresses after
  its inner loop: at the DO UNTIL of the inner one, and at its last three instructions (R449, R599, U32). -/
  | nestedLoopEnds
  /-- Popping an empty PC stack, loop stack or status stack (U9). -/
  | emptyStackPop
  /-- A push, pop or use of PCSTK in the instruction after a write of PCSTKP (R596, U34). -/
  | pcStackAfterPointerWrite
  /-- One instruction writes a register other than a data register twice (D16, U25). -/
  | doubleWrite
  /-- One instruction reaches one word over both buses (R112, U12). -/
  | sameWord
  /-- A read of a word at another width than it was last written with (R110, D4). -/
  | widthMismatch
  /-- Both results of a dual add/subtract go to one register (R371, U24). -/
  | sameDualDestination
  /-- A write of FADDR, DADDR or PC (R32). -/
  | readOnlyRegister
  /-- A write that sets IRPTL bit 0, 1, 2 or 9 (R151, R519, U1, U31). -/
  | reservedInterruptBit
  /-- A write of CURLCNTR from memory by the instruction at e - 2 of a counter-based loop (R449, R597). -/
  | counterFromMemoryAtTest
  /-- IF NOT LCE right after a write of CURLCNTR from memory (R449, R597). -/
  | notLceAfterCounterLoad
deriving DecidableEq, Repr

/-- Why an instruction or a step has no next state. -/
inductive Stop where
  | fault (f : Fault)
  | refuse (r : Refusal)
deriving DecidableEq, Repr

/-- A result, or the reason there is none. -/
abbrev Res (α : Type) := Except Stop α

/-- The four kinds of registers of one data address generator: numbers 0-7 primary, 8-15 alternate (R398). -/
structure DagFile (w : Nat) where
  /-- index registers -/
  i : Vector (BitVec w) 16
  /-- modifiers -/
  m : Vector (BitVec w) 16
  /-- lengths -/
  l : Vector (BitVec w) 16
  /-- bases -/
  b : Vector (BitVec w) 16
deriving DecidableEq, Repr

/-- A taken delayed branch in progress (R65): the target, and whether both slot instructions are still to come. -/
structure Delayed where
  target : A24
  two : Bool
deriving DecidableEq, Repr

/-- A short loop whose stacks are popped while loop-backs remain (R67): end address, top address, remaining
loop-backs, and whether it is counter-based. -/
structure Tail where
  e : A24
  b : A24
  more : Nat
  counter : Bool
deriving DecidableEq, Repr

/-- What the environment does at one instruction boundary (R17, D6, D14, D20, D26). -/
structure EnvIn where
  /-- Interrupt requests, as IRPTL bits. -/
  irq : W32
  /-- The levels of the pins FLAG3-0. -/
  flags : BitVec 4
  /-- Whether this processor is bus master. -/
  busMaster : Bool
  /-- Words written by DMA, a host or another processor, as the 48-bit PM data bus carries them (R106). -/
  writes : List (Nat × W48)
  /-- The RESET pin is asserted (R570). -/
  reset : Bool
deriving DecidableEq, Repr

/-- The whole machine. -/
structure State where
  /-- The open parameters (R9); no instruction changes them. -/
  cfg : Params
  /-- Data registers: 0-15 primary, 16-31 alternate (R20, R21). -/
  rf : Vector W40 32
  /-- The two multiplier result registers (R27). -/
  mr : Vector W80 2
  /-- DAG1 (R58, R398). -/
  dag1 : DagFile 32
  /-- DAG2 (R58, R398). -/
  dag2 : DagFile 24
  /-- Bus connect register: PX1 in bits 15-0, PX2 in bits 47-16 (R59, R404). -/
  px : W48
  /-- Address of the instruction the next step executes (R32). -/
  pc : A24
  /-- A taken delayed branch in progress (R65). -/
  dbr : Option Delayed
  /-- Model: the two locations after a delayed branch, taken or not, that are still to be executed (R440). -/
  slots : List A24
  /-- The PC stack; entry k of R34 is element k - 1. -/
  pcs : Vector A24 30
  /-- Model: which entries of the PC stack a CALL at the end of a loop pushed; only RTS (LR) returns to them (R449). -/
  endCalls : Vector Bool 30
  /-- PC stack pointer (R34). -/
  pcstkp : BitVec 5
  /-- Loop address stack (R37). -/
  las : Vector W32 6
  /-- Loop counter stack with the LCNTR slot (R38); a short counter-based loop keeps its remaining count `left` of R447
  in its level. -/
  lcs : Vector W32 7
  /-- Model: the length of each level's loop as its DO UNTIL gave it: 1, 2, or 3 for three and more; 0 where no DO UNTIL
  gave it (PUSH LOOP, a write of LADDR) and the top of the PC stack stands for the top of the loop (R441, R448). -/
  lens : Vector (Fin 4) 6
  /-- Occupied levels of the two loop stacks (R37). -/
  lsp : Fin 7
  /-- A short loop still looping back after its pop (R67). -/
  tail : Option Tail
  /-- Model: end addresses of loops popped at e - 2 whose last two instructions are still to come (R445). -/
  ending : List A24
  /-- Status stack of (ASTAT, MODE1), top first (R42). -/
  sts : List (W32 × W32)
  /-- Mode register 1 (R45 to R47). -/
  mode1 : W32
  /-- Mode register 2 (R48). -/
  mode2 : W32
  /-- Interrupt latch (R54). -/
  irptl : W32
  /-- Interrupt mask (R54). -/
  imask : W32
  /-- Interrupt mask pointer (R55). -/
  imaskp : W32
  /-- Arithmetic status, but for the flag inputs in bits 22-19, which are `flagIn` (R49, R50). -/
  astat : W32
  /-- Sticky status, but for the stack status bits 21, 22, 24 and 26, which follow the stacks (R52). -/
  stky : W32
  /-- User status 1 (R56). -/
  ustat1 : W32
  /-- User status 2 (R56). -/
  ustat2 : W32
  /-- Timer count (R61). -/
  tcount : W32
  /-- Timer period (R61). -/
  tperiod : W32
  /-- System registers the previous instruction wrote explicitly, with the values they had before (R64, R593). -/
  latent : List (Sreg × W32)
  /-- The value PCSTKP had before the previous instruction wrote it (R595). -/
  latentPcstkp : Option (BitVec 5)
  /-- The previous instruction loaded CURLCNTR from memory, or its IF was false (R449, R597; log entry 22). -/
  counterLoaded : Bool
  /-- Model: for how many instructions the fetch and decode addresses are not sequential (D30). -/
  nonSeq : Nat
  /-- Waiting in IDLE, and where to go on (R467). -/
  idle : Option A24
  /-- No instruction has executed since an interrupt was entered (R514 (c), R524). -/
  justEntered : Bool
  /-- For how many allowed boundaries a valid interrupt has waited (R514, `IRQ_DELAY_MAX`). -/
  irqHeld : Nat
  /-- The levels of the pins FLAG3-0 (R423). -/
  flagIn : BitVec 4
  /-- Bus master input (R424). -/
  busMaster : Bool
  /-- What the environment does at the coming instruction boundaries, first first (R17). -/
  inputs : List EnvIn
  /-- Memory contents (R100 to R109). -/
  mem : Memory
  /-- Word addresses written since boot, strictly rising (R121). -/
  dirty : List Nat
  /-- Model: words of 40 and 48 bits last written at the other width than the one their region is configured for: 48
  bits of PX over the PM bus where 40 are, 40 bits where 48 are; strictly rising (R110, D4). -/
  rewidth : List Nat
  /-- Model: the number of the step, the argument of every free value (`draw`, R13). -/
  drawn : Nat
deriving DecidableEq, Repr

/-- A generator with every register zero. -/
def DagFile.zero (w : Nat) : DagFile w :=
  { i := .replicate 16 0, m := .replicate 16 0, l := .replicate 16 0, b := .replicate 16 0 }

/-- The machine right after reset, for given parameters (R70 to R72, R571, D31). The registers whose reset value the
spec does not give are zero (DESIGN CHOICE, log entry 2). -/
def State.resetWith (p : Params) : State where
  cfg := p
  rf := .replicate 32 0
  mr := .replicate 2 0
  dag1 := .zero 32
  dag2 := .zero 24
  px := 0
  pc := resetVector p
  dbr := none
  slots := []
  pcs := .replicate 30 0
  endCalls := .replicate 30 false
  pcstkp := 0
  las := .replicate 6 0
  lcs := .replicate 7 0
  lens := .replicate 6 0
  lsp := 0
  tail := none
  ending := []
  sts := []
  mode1 := 0
  mode2 := 0
  irptl := 0
  imask := imaskReset p
  imaskp := 0
  astat := 0
  stky := 0
  ustat1 := 0
  ustat2 := 0
  tcount := 0
  tperiod := 0
  latent := []
  latentPcstkp := none
  counterLoaded := false
  nonSeq := 2
  idle := none
  justEntered := false
  irqHeld := 0
  flagIn := 0
  busMaster := true
  inputs := []
  mem := Memory.ofCells p.bootImage
  dirty := []
  rewidth := []
  drawn := 0

/-- The machine right after reset, with the default parameters. -/
def State.reset : State := State.resetWith Config.params

end Sys2Proof.Machine
end

