-- ==== Sys2Proof/Machine/Operands.lean ====
section
/-! DEFINITION. Reading: effective mode values, register banks, the loop stacks, and every universal register as the
buses carry it. All reads are of the state at the start of the instruction (R14). -/

namespace Sys2Proof.Machine

/-! Fields of words. -/

/-- `fx(v)`, the 32-bit fixed-point field of a data register (R11). -/
def fx (v : W40) : W32 := v.extractLsb' 8 32

/-- `put32(w)`, a 32-bit result as a data register holds it (R11, R23). -/
def put32 (w : W32) : W40 := w ++ (0 : BitVec 8)

/-- Bit `k` of a register word. -/
def bitOf (v : W32) (k : Nat) : Bool := v.getLsbD k

/-- A free Boolean. -/
def drawBool (t : DrawTag) (s : State) : Bool := (Config.draw t s.drawn).getLsbD 0

/-- A free word of `w` bits, at most 48. -/
def drawBits (w : Nat) (t : DrawTag) (s : State) : BitVec w := (Config.draw t s.drawn).setWidth w

/-! Effective values of the latency-1 registers (R64, R593): right after an explicit write the old or the new value. -/

/-- The value of system register `r`, now `cur`, under which this instruction executes. -/
def effective (s : State) (r : Sreg) (cur : W32) (t : DrawTag) : W32 :=
  match s.latent.lookup r with
  | none => cur
  | some old => if drawBool t s then old else cur

def effMode1 (s : State) : W32 := effective s .mode1 s.mode1 .mode1Latency
def effMode2 (s : State) : W32 := effective s .mode2 s.mode2 .mode2Latency
def effAstat (s : State) : W32 := effective s .astat s.astat .astatLatency
def effStky (s : State) : W32 := effective s .stky s.stky .stkyLatency

/-- MODE1.ALUSAT, bit 13 (R45). -/
def alusat (s : State) : Bool := bitOf (effMode1 s) 13

/-- MODE1.TRUNC, bit 15 (R45). -/
def trunc (s : State) : Bool := bitOf (effMode1 s) 15

/-- MODE1.RND32, bit 16 (R45). -/
def rnd32 (s : State) : Bool := bitOf (effMode1 s) 16

/-- MODE1.SSE, bit 14 (R47). -/
def sse (s : State) : Bool := bitOf (effMode1 s) 14

/-- ASTAT.AC, the carry input CI (R145, R175). -/
def carryIn (s : State) : Bool := bitOf (effAstat s) 3

/-! Register banks. -/

/-- The place of data register `n` under the bank selects SRRFL (bit 10) and SRRFH (bit 7) (R21). -/
def regIdx (s : State) (n : Reg) : Fin 32 :=
  if bitOf (effMode1 s) (if n.val < 8 then 10 else 7) then ⟨n.val + 16, by omega⟩ else ⟨n.val, by omega⟩

/-- `R[n]`, 40 bits (R13, R21). -/
def reg (s : State) (n : Reg) : W40 := s.rf.get (regIdx s n)

/-- `fx(R[n])`, the fixed-point operand of a computation (R170). -/
def regFx (s : State) (n : Reg) : W32 := fx (reg s n)

/-- Write data register `n` of the bank selected in `s` (R22: the bank of the instruction's start). -/
def putReg (s t : State) (n : Reg) (v : W40) : State :=
  { t with rf := t.rf.set (regIdx s n).val v (regIdx s n).isLt }

/-- MRF (false) or MRB (true) as a place: `MRF = MR[SRCU]`, `MRB = MR[1 - SRCU]` (R28, R47). -/
def mrIdx (s : State) (back : Bool) : Fin 2 := if bitOf (effMode1 s) 2 != back then 1 else 0

/-- The multiplier result register MRF or MRB. -/
def mrReg (s : State) (back : Bool) : W80 := s.mr.get (mrIdx s back)

/-- The place of a DAG register of number `n` when `high` and `low` are the MODE1 bits that select the alternate set of
numbers 4-7 and 0-3 of that generator (R47, R398). -/
def dagIdx (s : State) (high low : Nat) (n : Fin 8) : Fin 16 :=
  if bitOf (effMode1 s) (if n.val < 4 then low else high) then ⟨n.val + 8, by omega⟩ else ⟨n.val, by omega⟩

/-- The place of a DAG1 register: SRD1H is bit 3, SRD1L bit 4. -/
def dag1Idx (s : State) (n : Fin 8) : Fin 16 := dagIdx s 3 4 n

/-- The place of a DAG2 register: SRD2H is bit 5, SRD2L bit 6. -/
def dag2Idx (s : State) (n : Fin 8) : Fin 16 := dagIdx s 5 6 n

/-- The registers of one kind of a generator. -/
def dagFile {w : Nat} (d : DagFile w) : DagKind → Vector (BitVec w) 16
  | .i => d.i
  | .m => d.m
  | .l => d.l
  | .b => d.b

/-- A DAG1 register of the active set. -/
def dag1Reg (s : State) (k : DagKind) (n : Fin 8) : W32 := (dagFile s.dag1 k).get (dag1Idx s n)

/-- A DAG2 register of the active set. -/
def dag2Reg (s : State) (k : DagKind) (n : Fin 8) : A24 := (dagFile s.dag2 k).get (dag2Idx s n)

/-! The stacks. -/

/-- The entry of the PC stack that a pointer value names: one of 1 to 30 (R34). -/
def pcEntry (s : State) (p : BitVec 5) : Option A24 :=
  if h : 0 < p.toNat ∧ p.toNat ≤ 30 then some (s.pcs.get ⟨p.toNat - 1, by omega⟩) else none

/-- The top of the PC stack when 1 to 30 entries are occupied (R34). -/
def pcTop (s : State) : Option A24 := pcEntry s s.pcstkp

/-- One level of the loop stacks: end address, termination code, loop type (0 not counter-based; 1, 2 and 3
counter-based of length 1, 2 and more), count, and the length its DO UNTIL gave (0: none did) (R37, R441). -/
structure Level where
  e : A24
  term : Cond
  kind : Nat
  count : W32
  len : Nat
deriving DecidableEq, Repr

/-- The fields of a loop address stack word (R37). -/
def levelOf (w count : W32) (len : Nat) : Level :=
  ⟨w.extractLsb' 0 24, Cond.ofCode (w.extractLsb' 24 5).toNat, (w.extractLsb' 30 2).toNat, count, len⟩

/-- The loop address stack word of a loop (R37). -/
def levelWord (e : A24) (term : Cond) (kind : Nat) : W32 :=
  BitVec.ofNat 2 kind ++ (0 : BitVec 1) ++ BitVec.ofNat 5 term.code ++ e

/-- Level `k` of the loop stacks. -/
def levelAt (s : State) (k : Fin 6) : Level :=
  levelOf (s.las.get k) (s.lcs.get ⟨k.val, by omega⟩) (s.lens.get k).val

/-- The innermost active loop. -/
def loopTop (s : State) : Option Level :=
  if h : 0 < s.lsp.val then some (levelAt s ⟨s.lsp.val - 1, by omega⟩) else none

/-- The loops around the innermost active one (R443). -/
def outerLoops (s : State) : List Level :=
  (List.finRange 6).filterMap fun k => if k.val + 1 < s.lsp.val then some (levelAt s k) else none

/-- CURLCNTR as the stack holds it: 0xFFFF FFFF when empty (R39). -/
def curlcntr (s : State) : W32 :=
  match loopTop s with
  | none => 0xFFFFFFFF
  | some l => l.count

/-- The instruction is one of a counter-based loop of one or two instructions, or of the last passes of one: what the
counter and loop registers read there is not stated (R447, U27). Elsewhere, as in a routine entered from such a loop, they
read their stacks. -/
def inShortBody (s : State) : Bool :=
  (match loopTop s with
   | none => false
   | some l => (l.kind == 1 || l.kind == 2) && (s.pc == l.e || (l.kind == 2 && s.pc + 1 == l.e))) ||
  (match s.tail with
   | none => false
   | some t => t.counter && (s.pc == t.e || s.pc == t.b))

/-- What a read of CURLCNTR gives, for a move or for NOT LCE (R39, R451, U27). -/
def readCurlcntr (s : State) : W32 := if inShortBody s then drawBits 32 .curlcntr s else curlcntr s

/-- What a read of LCNTR gives (R40, U27). -/
def readLcntr (s : State) : W32 :=
  if s.lsp.val = 6 || inShortBody s then drawBits 32 .lcntr s else s.lcs.get s.lsp

/-- What a read of LADDR gives (R37, U27). -/
def readLaddr (s : State) : W32 :=
  if inShortBody s then drawBits 32 .laddr s
  else if h : 0 < s.lsp.val then s.las.get ⟨s.lsp.val - 1, by omega⟩ else 0xFFFFFFFF

/-- What a read of PCSTK gives (R34, U8, U27). -/
def readPcstk (s : State) : A24 :=
  if inShortBody s then drawBits 24 .pcstk s
  else match pcTop s with
    | none => drawBits 24 .pcstk s
    | some a => a

/-- What a read of PCSTKP gives: right after a write the old or the new value (R595). -/
def readPcstkp (s : State) : BitVec 5 :=
  match s.latentPcstkp with
  | none => s.pcstkp
  | some old => if drawBool .pcstkpRead s then old else s.pcstkp

/-- What a read of IMASKP gives: right after a write the old or the new value (R595). -/
def readImaskp (s : State) : W32 := effective s .imaskp s.imaskp .imaskpRead

/-- `a` is one of the last three addresses of a loop that ends at `e`. -/
def nearEnd (e a : A24) : Bool := a == e || a + 1 == e || a + 2 == e

/-- The instruction is among the last three of the loop whose end the sequencer watches (D30): of the innermost loop, of
a loop popped at its e - 2, or of a short loop running out. -/
def atInnerEnd (s : State) : Bool :=
  (match loopTop s with
   | none => false
   | some l => nearEnd l.e s.pc) ||
  s.ending.any (fun e => nearEnd e s.pc) ||
  (match s.tail with
   | none => false
   | some t => s.pc == t.e || s.pc == t.b)

/-- The instruction is among the last three of a loop (R449): of one of these, or of any loop around them. -/
def atLoopEnd (s : State) : Bool := atInnerEnd s || (outerLoops s).any fun l => nearEnd l.e s.pc

/-- The instruction is in one of the two locations after a delayed branch, taken or not (R440). -/
def inSlot (s : State) : Bool := s.slots.contains s.pc

/-- Sequential flow: FADDR and DADDR are the next two addresses (R32, D30). -/
def sequential (s : State) : Bool := !inSlot s && s.nonSeq == 0 && !atInnerEnd s

/-! Status registers with the bits that follow the inputs and the stacks. -/

/-- ASTAT bits 22-19, FLG3 to FLG0 (R50, D26). -/
def flagInMask : W32 := 0x00780000

/-- A stored ASTAT with the sampled flag inputs in their places (D26). -/
def withFlagIn (s : State) (v : W32) : W32 := (v &&& ~~~flagInMask) ||| (s.flagIn.setWidth 32 <<< 19)

/-- STKY bits PCFL 21, PCEM 22, SSEM 24 and LSEM 26, which follow the stacks (R52). -/
def stackStatusMask : W32 := 0x05600000

/-- The stack status bits: PCFL from 29 entries on (R36), PCEM, SSEM, LSEM. Right after a write of PCSTKP the first two
follow the old or the new pointer (R593, R595). -/
def stackStatus (s : State) : W32 :=
  (if 29 ≤ (readPcstkp s).toNat then 0x00200000 else 0) ||| (if readPcstkp s = 0 then 0x00400000 else 0) |||
  (if s.sts.isEmpty then 0x01000000 else 0) ||| (if s.lsp.val = 0 then 0x04000000 else 0)

/-- What a read of STKY gives (R52). -/
def withStackStatus (s : State) (v : W32) : W32 := (v &&& ~~~stackStatusMask) ||| stackStatus s

/-- A read of a system register (R44, R593: read latency 0, but for IMASKP). -/
def readSreg (s : State) : Sreg → W32
  | .mode1 => s.mode1
  | .mode2 => s.mode2
  | .irptl => s.irptl
  | .imask => s.imask
  | .imaskp => readImaskp s
  | .astat => withFlagIn s s.astat
  | .stky => withStackStatus s s.stky
  | .ustat1 => s.ustat1
  | .ustat2 => s.ustat2

/-! Universal registers on the buses. A bus value is held in the 48-bit PM alignment (R106): a 40-bit value in bits
47-8, a 32-bit field in bits 47-16. -/

/-- A 40-bit value on the bus. -/
def bus40 (v : W40) : W48 := v ++ (0 : BitVec 8)

/-- A 32-bit field on the bus. -/
def bus32 (v : W32) : W48 := v ++ (0 : BitVec 16)

/-- The 40 bits of the DM data bus (R106). -/
def low40 (v : W48) : W40 := v.extractLsb' 8 40

/-- The 32-bit field of a bus value. -/
def low32 (v : W48) : W32 := v.extractLsb' 16 32

/-- A register of at most 32 bits on the bus: right-justified in the 32-bit field, zeros above (R107). -/
def busNarrow {w : Nat} (v : BitVec w) : W48 := bus32 (v.setWidth 32)

/-- A read of a universal register, as the bus carries it (R60, R107, R402, R404). -/
def readUreg (s : State) : Ureg → W48
  | .r n => bus40 (reg s n)
  | .dag1 k n => busNarrow (dag1Reg s k n)
  | .dag2 k n => busNarrow (dag2Reg s k n)
  | .px => s.px
  | .px1 => busNarrow (s.px.extractLsb' 0 16)
  | .px2 => busNarrow (s.px.extractLsb' 16 32)
  | .faddr => busNarrow (if sequential s then s.pc + 2 else drawBits 24 .faddr s)
  | .daddr => busNarrow (if sequential s then s.pc + 1 else drawBits 24 .daddr s)
  | .pc => busNarrow s.pc
  | .pcstk => busNarrow (readPcstk s)
  | .pcstkp => busNarrow (readPcstkp s)
  | .laddr => busNarrow (readLaddr s)
  | .curlcntr => busNarrow (readCurlcntr s)
  | .lcntr => busNarrow (readLcntr s)
  | .sys r => busNarrow (readSreg s r)
  | .tcount => busNarrow s.tcount
  | .tperiod => busNarrow s.tperiod

end Sys2Proof.Machine
end

