-- ==== Sys2Proof/Machine/Flags.lean ====
section
/-! DEFINITION. The status flags the computation units write, and the conditions read from them. -/

namespace Sys2Proof.Machine

/-- Bit `k` set if `b`. -/
def flagBit (k : Nat) (b : Bool) : W32 := if b then 1 <<< k else 0

/-- What one computation contributes to the flags: which ASTAT bits it writes, their values, and the STKY bits it sets
(R51, R52, R57). -/
structure FlagOut where
  mask : W32
  val : W32
  sticky : W32
deriving DecidableEq, Repr

/-- No flag written. -/
def FlagOut.none : FlagOut := ⟨0, 0, 0⟩

/-- The flags of two units of one instruction together (R377): the masks are disjoint. -/
def FlagOut.both (a b : FlagOut) : FlagOut := ⟨a.mask ||| b.mask, a.val ||| b.val, a.sticky ||| b.sticky⟩

/-- ASTAT after the flags of a computation. -/
def FlagOut.onAstat (f : FlagOut) (astat : W32) : W32 := (astat &&& ~~~f.mask) ||| (f.val &&& f.mask)

/-- The ALU's bits of ASTAT: AZ 0, AV 1, AN 2, AC 3, AS 4, AI 5, AF 10 (R49). -/
def aluMask : W32 := 0x0000043F

/-- CACC, ASTAT bits 31-24 (R49). -/
def caccMask : W32 := 0xFF000000

/-- The multiplier's bits of ASTAT: MN 6, MV 7, MU 8, MI 9 (R50). -/
def mulMask : W32 := 0x000003C0

/-- The shifter's bits of ASTAT: SV 11, SZ 12, SS 13 (R49). -/
def shiftMask : W32 := 0x00003800

/-- ASTAT.BTF, bit 18 (R49). -/
def btfMask : W32 := 0x00040000

/-- The ALU flags of one operation. -/
structure AluFlags where
  az : Bool
  av : Bool
  an : Bool
  ac : Bool
  as : Bool
  ai : Bool
  af : Bool
deriving DecidableEq, Repr

/-- All ALU flags 0: what a fixed-point operation leaves but for those its rule names (R171). -/
def AluFlags.clear : AluFlags := ⟨false, false, false, false, false, false, false⟩

/-- The two sets of ALU flags of a dual add/subtract are ORed (R370, R371). -/
def AluFlags.or (a b : AluFlags) : AluFlags :=
  ⟨a.az || b.az, a.av || b.av, a.an || b.an, a.ac || b.ac, a.as || b.as, a.ai || b.ai, a.af || b.af⟩

/-- The ALU flags in their ASTAT places. -/
def AluFlags.word (f : AluFlags) : W32 :=
  flagBit 0 f.az ||| flagBit 1 f.av ||| flagBit 2 f.an ||| flagBit 3 f.ac ||| flagBit 4 f.as ||| flagBit 5 f.ai |||
  flagBit 10 f.af

/-- The STKY bits an ALU operation sets: AUS 0, AVS 1, AOS 2, AIS 5 (R52). -/
def aluSticky (aus avs aos ais : Bool) : W32 :=
  flagBit 0 aus ||| flagBit 1 avs ||| flagBit 2 aos ||| flagBit 5 ais

/-- The flag output of an ALU operation other than a compare. -/
def aluOut (f : AluFlags) (sticky : W32) : FlagOut := ⟨aluMask, f.word, sticky⟩

/-- CACC after a compare: shifted toward the LSB, the result entering at bit 31 (R178). -/
def caccAfter (astat : W32) (greater : Bool) : W32 := ((astat &&& 0xFE000000) >>> 1) ||| flagBit 31 greater

/-- The flag output of a compare: the ALU flags and CACC (R178, R225). -/
def compareOut (f : AluFlags) (astat : W32) (greater : Bool) (sticky : W32) : FlagOut :=
  ⟨aluMask ||| caccMask, f.word ||| caccAfter astat greater, sticky⟩

/-- The flag output of a multiplier operation: MN 6, MV 7, MU 8, MI 9, and the STKY bits MOS 6, MVS 7, MUS 8, MIS 9
(R50, R52). -/
def mulOut (mn mv mu mi mos mvs mus mis : Bool) : FlagOut :=
  ⟨mulMask, flagBit 6 mn ||| flagBit 7 mv ||| flagBit 8 mu ||| flagBit 9 mi,
    flagBit 6 mos ||| flagBit 7 mvs ||| flagBit 8 mus ||| flagBit 9 mis⟩

/-- The flag output of a shifter operation: SV 11, SZ 12, SS 13, no sticky bit (R312). -/
def shiftOut (sz sv ss : Bool) : FlagOut := ⟨shiftMask, flagBit 11 sv ||| flagBit 12 sz ||| flagBit 13 ss, 0⟩

/-! Conditions (Table 3.2, R421). -/

/-- "ALU less than zero" (note 1) of an ASTAT value. -/
def isLess (a : W32) (sat : Bool) : Bool :=
  (!bitOf a 10 && (bitOf a 2 != (bitOf a 1 && !sat))) || (bitOf a 10 && bitOf a 2 && !bitOf a 0)

/-- "ALU less than or equal zero" (note 2) of an ASTAT value. -/
def isLessEq (a : W32) (sat : Bool) : Bool :=
  (!bitOf a 10 && (bitOf a 2 != (bitOf a 1 && !sat))) || (bitOf a 10 && bitOf a 2) || bitOf a 0

/-- MODE1 bits 18-17 are 00: the bus master condition is enabled (R424). -/
def busConditionOn (s : State) : Bool := !bitOf (effMode1 s) 17 && !bitOf (effMode1 s) 18

/-- A condition on the state at the start of the instruction, but for codes 15 and 31, which an IF and a loop read
differently (R421 to R424). -/
def conditionBase (s : State) (expired forever : Bool) : Cond → Bool
  | .eq => bitOf (effAstat s) 0
  | .lt => isLess (effAstat s) (alusat s)
  | .le => isLessEq (effAstat s) (alusat s)
  | .ac => bitOf (effAstat s) 3
  | .av => bitOf (effAstat s) 1
  | .mv => bitOf (effAstat s) 7
  | .ms => bitOf (effAstat s) 6
  | .sv => bitOf (effAstat s) 11
  | .sz => bitOf (effAstat s) 12
  | .flag0 => s.flagIn.getLsbD 0
  | .flag1 => s.flagIn.getLsbD 1
  | .flag2 => s.flagIn.getLsbD 2
  | .flag3 => s.flagIn.getLsbD 3
  | .tf => bitOf (effAstat s) 18
  | .bm => busConditionOn s && s.busMaster
  | .lce => expired
  | .ne => !bitOf (effAstat s) 0
  | .ge => !isLess (effAstat s) (alusat s)
  | .gt => !isLessEq (effAstat s) (alusat s)
  | .notAc => !bitOf (effAstat s) 3
  | .notAv => !bitOf (effAstat s) 1
  | .notMv => !bitOf (effAstat s) 7
  | .notMs => !bitOf (effAstat s) 6
  | .notSv => !bitOf (effAstat s) 11
  | .notSz => !bitOf (effAstat s) 12
  | .notFlag0 => !s.flagIn.getLsbD 0
  | .notFlag1 => !s.flagIn.getLsbD 1
  | .notFlag2 => !s.flagIn.getLsbD 2
  | .notFlag3 => !s.flagIn.getLsbD 3
  | .notTf => !bitOf (effAstat s) 18
  | .nbm => if busConditionOn s then !s.busMaster else drawBool .nbm s
  | .tru => forever

/-- The condition of an IF: code 15 is NOT LCE (CURLCNTR is not 1), code 31 is TRUE (R421, R422, R451). -/
def condition (s : State) (c : Cond) : Bool := conditionBase s (readCurlcntr s != 1) true c

/-- The termination condition of a loop whose count is `count`: code 15 is LCE, code 31 is FOREVER (R421, R444). -/
def terminates (s : State) (count : W32) (c : Cond) : Bool := conditionBase s (count == 1) false c

end Sys2Proof.Machine
end

