-- ==== Sys2Proof/Machine/Numerics.lean ====
section
/-! DEFINITION. Floating-point formats, rounding and delivery (41_alu_float.md R210 to R215). Values are exact: a finite
operand is `±m * 2^e`. These are the reference definitions of the spec's `Numerics` record (PRESUMED, log entry 6),
with the fields the spec leaves abstract left opaque, and with what the parameter `numerics` names in their stead (log
entry 20). -/

namespace Sys2Proof.Machine

/-- A finite value: sign, magnitude `m`, exponent `e`: `(-1)^neg * m * 2^e`. -/
structure Fin2 where
  neg : Bool
  m : Nat
  e : Int
deriving DecidableEq, Repr

/-- An operand's class (R211). -/
inductive FVal where
  | nan
  | inf (neg : Bool)
  | num (v : Fin2)
deriving DecidableEq, Repr

/-- Sign bit of a 40-bit floating-point word (R210). -/
def fSign (v : W40) : Bool := v.getLsbD 39

/-- Biased exponent, bits 38-31 (R210). -/
def fExp (v : W40) : Nat := (v.extractLsb' 31 8).toNat

/-- Fraction, bits 30-0 (R210). -/
def fFrac (v : W40) : Nat := (v.extractLsb' 0 31).toNat

/-- A 40-bit floating-point word from its fields (R210). -/
def fWord (neg : Bool) (exp frac : Nat) : W40 :=
  (if neg then (1 : BitVec 1) else 0) ++ BitVec.ofNat 8 exp ++ BitVec.ofNat 31 frac

/-- Denormals become zero, the sign kept (R211). -/
def flushDenormal (v : W40) : W40 := if fExp v = 0 then fWord (fSign v) 0 0 else v

/-- The low eight bits cleared (R212). -/
def clearLow8 (v : W40) : W40 := put32 (fx v)

/-- `in(v)` (R211): the low eight bits cleared under RND32, then denormals flushed. The class is that of the result
(U14). -/
def fInput (s : State) (v : W40) : W40 := flushDenormal (if rnd32 s then clearLow8 v else v)

/-- The class and value of a conditioned word (R210, R211). -/
def classify (v : W40) : FVal :=
  if fExp v = 255 then (if fFrac v = 0 then .inf (fSign v) else .nan)
  else if fExp v = 0 then .num ⟨fSign v, 0, 0⟩
  else .num ⟨fSign v, 2 ^ 31 + fFrac v, (fExp v : Int) - 158⟩

/-- The operand `in(F[n])` as a word. -/
def regF (s : State) (n : Reg) : W40 := fInput s (reg s n)

/-- Plus or minus Infinity. -/
def fInf (neg : Bool) : W40 := fWord neg 255 0

/-- Plus or minus Zero. -/
def fZero (neg : Bool) : W40 := fWord neg 0 0

/-- NORM.MAX with `p` significant bits (R214). -/
def fMaxNormal (p : Nat) (neg : Bool) : W40 := fWord neg 254 ((2 ^ (p - 1) - 1) * 2 ^ (32 - p))

/-- `NAN1`: all ones, but for the low eight bits under RND32 (R215, D12). -/
def nan1 (s : State) : W40 := if rnd32 s then 0xFFFFFFFF00 else 0xFFFFFFFFFF

/-- The significant bits of a result: 24 under RND32, else 32 (R212). -/
def resultBits (s : State) : Nat := if rnd32 s then 24 else 32

/-- Drop the low `d` bits of `m`: truncate, or round to nearest with ties to even (R213). -/
def roundShift (truncate : Bool) (m d : Nat) : Nat :=
  let q := m / 2 ^ d
  let r := m % 2 ^ d
  if truncate then q
  else if 2 ^ d < 2 * r || (2 * r == 2 ^ d && q % 2 == 1) then q + 1 else q

/-- `round_p` of `m * 2^e`, m not 0 (R213): a significand of exactly `p` bits and its exponent. -/
def roundTo (truncate : Bool) (p m : Nat) (e : Int) : Nat × Int :=
  let n := m.log2 + 1
  if n ≤ p then (m * 2 ^ (p - n), e - (p - n : Nat))
  else
    let q := roundShift truncate m (n - p)
    if q = 2 ^ p then (2 ^ (p - 1), e + (n - p : Nat) + 1) else (q, e + (n - p : Nat))

/-- A delivered floating-point result: the word, overflow, and underflow (R214). -/
structure Delivered where
  word : W40
  ovf : Bool
  unf : Bool
deriving DecidableEq, Repr

/-- `deliver(z)` (R214) with `p` significant bits, for `z = ±m * 2^e`; an exact zero has the given sign. -/
def deliver (truncate : Bool) (p : Nat) (z : Fin2) : Delivered :=
  if z.m = 0 then ⟨fZero z.neg, false, false⟩
  else
    let w := roundTo truncate p z.m z.e
    let exponent := w.2 + (p - 1 : Nat)
    if 127 < exponent then ⟨if truncate then fMaxNormal p z.neg else fInf z.neg, true, false⟩
    else if exponent < -126 then ⟨fZero z.neg, false, true⟩
    else ⟨fWord z.neg (exponent + 127).toNat ((w.1 - 2 ^ (p - 1)) * 2 ^ (32 - p)), false, false⟩

/-- The exact integer `±m * 2^(e - lo)`, for `lo` at most `e`. -/
def Fin2.scaled (v : Fin2) (lo : Int) : Int :=
  let n : Int := v.m * 2 ^ (v.e - lo).toNat
  if v.neg then -n else n

/-- The exact sum. A zero sum is +Zero unless both operands are -Zero (R217, R220). -/
def Fin2.add (a b : Fin2) : Fin2 :=
  let lo := min a.e b.e
  let n := a.scaled lo + b.scaled lo
  if n = 0 then ⟨a.neg && b.neg && a.m == 0 && b.m == 0, 0, 0⟩ else ⟨decide (n < 0), n.natAbs, lo⟩

/-- The exact product. A Zero times a finite operand is a Zero whose sign is the exclusive or of the operands' signs: R292
gives the sign of an underflow only, R214 leaves that of an exact Zero to the operation (PRESUMED, log entry 6). -/
def Fin2.mul (a b : Fin2) : Fin2 := ⟨a.neg != b.neg, a.m * b.m, a.e + b.e⟩

/-- The value times 2^k. -/
def Fin2.scale (a : Fin2) (k : Int) : Fin2 := ⟨a.neg, a.m, a.e + k⟩

/-- The exact comparison a < b. -/
def Fin2.lt (a b : Fin2) : Bool := decide (a.scaled (min a.e b.e) < b.scaled (min a.e b.e))

/-- A value that orders like a number or Infinity: Infinity lies beyond every finite value. -/
def ordered : FVal → Fin2
  | .nan => ⟨false, 0, 0⟩
  | .inf neg => ⟨neg, 1, 200⟩
  | .num v => v

/-- a < b for operands that are not NANs; the two Zeros are equal (R217, R225). -/
def fLess (a b : W40) : Bool := Fin2.lt (ordered (classify a)) (ordered (classify b))

/-- The operand is a NAN. -/
def isNan (v : W40) : Bool := classify v == .nan

/-- The word is plus or minus Zero. -/
def isZero (v : W40) : Bool := v == fZero false || v == fZero true

/-- The word is plus or minus Infinity. -/
def isInf (v : W40) : Bool := v == fInf false || v == fInf true

/-- The word with its sign bit replaced. -/
def setSign (v : W40) (neg : Bool) : W40 := fWord neg (fExp v) (fFrac v)

/-- The result of a field of `Numerics` before its flags are laid out: the word, AV, underflow, AI, AZ, AN and AS. -/
structure FOut where
  word : W40
  av : Bool
  unf : Bool
  ai : Bool
  az : Bool
  an : Bool
  as : Bool
deriving DecidableEq, Repr

/-- The NAN result of an invalid operation: AZ, AV and AN 0 (R215). -/
def FOut.invalid (s : State) : FOut := ⟨nan1 s, false, false, true, false, false, false⟩

/-- A valid floating-point result: AZ and AN follow the word (R214). -/
def FOut.valued (v : W40) (av unf : Bool) : FOut := ⟨v, av, unf, false, isZero v, fSign v, false⟩

/-- A result that is not rounded. -/
def FOut.exact (v : W40) : FOut := .valued v false false

/-- A delivered result. -/
def FOut.ofDelivered (d : Delivered) : FOut := .valued d.word d.ovf d.unf

/-- A fixed-point result in bits 39-8: AN is bit 31 of the word (R232, R233), also of a NAN operand's. -/
def FOut.ofInt (r : W32) (av unf ai : Bool) : FOut := ⟨put32 r, av, unf, ai, r == 0, bitOf r 31, false⟩

/-- What a comparison answers: equal (0), less (bit 39) or greater. -/
def orderWord (equal less : Bool) : W40 := if less then 0x8000000000 else if equal then 0 else 1

/-- A floating-point operand of `op` as it is read (R211): RND's keeps its low eight bits. -/
def conditioned (s : State) (op : NumericOp) (v : W40) : W40 := if op = .fRnd then flushDenormal v else fInput s v

/-- One of the floating-point operands is a NAN as `f` reads them. -/
def anyNan (op : NumericOp) (f : W40 → W40) (x y : W40) : Bool :=
  (op.floatX && isNan (f x)) || (op.floatY && isNan (f y))

/-- The answer `r` of a field of `Numerics` in place of the reference `o`, within R211 to R216 and the row of R243 (log entry
20). `nan`: an operand is a NAN; `unclear`: one is a NAN by the reading of U14 that the reference does not take (then RND32
is 1, and an invalid result is all ones above its low eight bits). The rules fix which operations are invalid and what an
invalid one holds, AZ and AN of a valid result, the sign of an absolute value and the flags a row does not mark; `r` gives
the rest, which is what the rules leave open or mark as the spec's own knowledge. -/
def numericWithin (r : NumericOut) (op : NumericOp) (short nan unclear : Bool) (o : FOut) : FOut :=
  let ai := if (unclear && !o.ai) || (o.ai && !nan && op.invalidOpen) then r.ai else o.ai
  let w := if short then clearLow8 r.word else r.word
  let w := if op.absolute && !ai then setSign w false else w
  let w := if o.ai && (nan || !op.invalidWordOpen) then o.word else if ai && !o.ai then 0xFFFFFFFF00 else w
  { word := w
    av := r.av && op.marksAv
    unf := r.unf && op.marksUnderflow
    ai := ai
    az := if ai then r.az else if op.compares || op.yieldsFixed then w == 0 else isZero w
    an := (if ai then r.an else fSign w) && op.marksAn
    as := if nan && (op == .fAbs || op == .fMant) then r.as else o.as }

/-- The field `op` of the record `Numerics` (R217) on the operands `x` and `y` as NumericIn has them: what the parameters
name, else the reference `o`. -/
def numeric (s : State) (op : NumericOp) (x y : W40) (o : FOut) : FOut :=
  match s.cfg.numerics.lookup ⟨op, x, y, trunc s, rnd32 s, alusat s⟩ with
  | none => o
  | some r =>
    let nan := anyNan op (conditioned s op) x y
    numericWithin r op (op.short (rnd32 s)) nan (!nan && anyNan op id x y) o

/-- `a + b` (R220): invalid for a NAN or opposite Infinities, an Infinity passes, else the rounded sum. `half` halves
the exact sum before rounding (R224). -/
def fSum (s : State) (half : Bool) (a b : W40) : FOut :=
  match classify a, classify b with
  | .nan, _ => .invalid s
  | _, .nan => .invalid s
  | .inf na, .inf nb => if na = nb then .exact (fInf na) else .invalid s
  | .inf na, .num _ => .exact (fInf na)
  | .num _, .inf nb => .exact (fInf nb)
  | .num x, .num y =>
    .ofDelivered (deliver (trunc s) (resultBits s) ((x.add y).scale (if half then -1 else 0)))

/-- The word with its sign inverted: the second operand of a subtraction (R221). -/
def fNegate (v : W40) : W40 := setSign v (!fSign v)

/-- The absolute value of a result; a NAN1 result stays (R222). -/
def FOut.abs (o : FOut) : FOut := if o.ai then o else .valued (setSign o.word false) o.av o.unf

/-- The average's AV is always 0 (R224). -/
def FOut.noOverflow (o : FOut) : FOut := { o with av := false }

/-- The ALU flags of a floating-point result (R216): AC 0, AF 1. -/
def FOut.flags (o : FOut) : AluFlags := ⟨o.az, o.av, o.an, false, o.as, o.ai, true⟩

/-- The STKY bits of a floating-point result: AUS with underflow, AVS with AV, AIS with AI (R216). -/
def FOut.sticky (o : FOut) : W32 := aluSticky o.unf o.av false o.ai

/-- The product of the multiplier (R292). -/
def fProduct (s : State) (a b : W40) : FOut :=
  match classify a, classify b with
  | .nan, _ => .invalid s
  | _, .nan => .invalid s
  | .inf na, .inf nb => .exact (fInf (na != nb))
  | .inf na, .num y => if y.m = 0 then .invalid s else .exact (fInf (na != y.neg))
  | .num x, .inf nb => if x.m = 0 then .invalid s else .exact (fInf (x.neg != nb))
  | .num x, .num y => .ofDelivered (deliver (trunc s) (resultBits s) (x.mul y))

/-- The magnitude of `m * 2^e` rounded to an integer, and whether the result does not fit `2^32` (then 2^32). -/
def roundInt (truncate : Bool) (m : Nat) (e : Int) : Nat :=
  if m = 0 then 0
  else if 32 < (m.log2 : Int) + e then 2 ^ 32
  else if (m.log2 : Int) + e < -1 then 0
  else if 0 ≤ e then m * 2 ^ e.toNat
  else roundShift truncate m (-e).toNat

/-- The out-of-range result of a conversion (R233): saturated under ALUSAT, else all ones and invalid. -/
def fixOverflow (s : State) (neg : Bool) : FOut :=
  if alusat s then .ofInt (if neg then 0x80000000 else 0x7FFFFFFF) true false false
  else .ofInt 0xFFFFFFFF true false true

/-- `FIX` of a conditioned operand scaled by 2^k (R233). -/
def fixTo (s : State) (a : W40) (k : Int) : FOut :=
  match classify a with
  | .nan => .ofInt 0xFFFFFFFF false false true
  | .inf neg => fixOverflow s neg
  | .num v =>
    let n := roundInt (trunc s) v.m (v.e + k)
    let i : Int := if v.neg then -(n : Int) else n
    if i < -2 ^ 31 ∨ 2 ^ 31 - 1 < i then fixOverflow s v.neg
    else .ofInt (BitVec.ofInt 32 i) false (v.m != 0 && decide ((v.m.log2 : Int) + (v.e + k) < 0)) false

/-- `FLOAT` of an integer scaled by 2^k, always 32 significant bits (R235). -/
def floatOf (s : State) (i k : Int) : FOut :=
  .ofDelivered (deliver (trunc s) 32 ⟨decide (i < 0), i.natAbs, k⟩)

/-- `MANT` (R231): the significand with its hidden bit, unsigned 1.31: AN is 0. -/
def mantOf (a : W40) : FOut :=
  let r : W32 × Bool := match classify a with
    | .nan => (0xFFFFFFFF, true)
    | .inf _ => (0xFFFFFFFF, true)
    | .num v => (BitVec.ofNat 32 v.m, false)
  { FOut.ofInt r.1 false false r.2 with an := false }

/-- `LOGB` (R232): the unbiased exponent. -/
def logbOf (a : W40) : FOut :=
  match classify a with
  | .nan => .ofInt 0xFFFFFFFF false false true
  | .inf _ => .ofInt 0x7FFFFFFF true false false
  | .num v =>
    if v.m = 0 then .ofInt 0x80000000 true false false
    else .ofInt (BitVec.ofInt 32 ((fExp a : Int) - 127)) false false false

/-- The smallest step of a seed's fraction (R212). -/
def seedUnit (s : State) : Nat := if rnd32 s then 256 else 1

/-- The fraction of the reciprocal seed of a significand `sig` in steps of `unit`: `free`, brought into the range in which
the seed is within 2^-8 relative of the reciprocal (R237). -/
def recipsFrac (unit sig free : Nat) : Nat :=
  let lo := (2 ^ 63 - 2 ^ 55 + sig - 1) / sig - 2 ^ 31
  let hi := min ((2 ^ 63 + 2 ^ 55) / sig - 2 ^ 31) (2 ^ 31 - 1)
  max ((lo + unit - 1) / unit) (min (hi / unit) (free / unit)) * unit

/-- `RECIPS` (R237): exponent -E - 1, the operand's sign, and a fraction as accurate as R237 says; which one, the table
would say, and no source gives it (log entry 34). -/
def recipsOf (s : State) (a : W40) : FOut :=
  match classify a with
  | .nan => .invalid s
  | .inf neg => .exact (fZero neg)
  | .num v =>
    if v.m = 0 then .valued (fInf v.neg) true false
    else if 252 < fExp a then .valued (fZero v.neg) false true
    else .exact (fWord v.neg (253 - fExp a) (recipsFrac (seedUnit s) v.m (Config.recipsFraction a).toNat))

/-- The largest `r` with `r * r ≤ n`, for `n` below 4^k. -/
def isqrt : Nat → Nat → Nat
  | 0, _ => 0
  | k + 1, n =>
    let r := 2 * isqrt k (n / 4)
    if (r + 1) * (r + 1) ≤ n then r + 1 else r

/-- A positive normal number within 2^-4 relative of the reciprocal square root of the positive normal `a` (R238). -/
def rsqrtsNear (a w : W40) : Bool :=
  let k := 474 - (2 * fExp w + fExp a)
  let z := 256 * ((2 ^ 31 + fFrac w) * (2 ^ 31 + fFrac w) * (2 ^ 31 + fFrac a))
  !fSign w && decide (0 < fExp w ∧ fExp w < 255) && decide (225 * 2 ^ k ≤ z ∧ z ≤ 289 * 2 ^ k)

/-- The reciprocal square root of a positive normal number, truncated. -/
def rsqrtsExact (a : W40) : W40 :=
  let sig := 2 ^ 31 + fFrac a
  let h := (fExp a + 1) / 2
  let m := if fExp a % 2 = 1 then sig else 2 * sig
  fWord false (190 - h) (min (isqrt 33 (2 ^ 95 / m)) (2 ^ 32 - 1) - 2 ^ 31)

/-- A 40-bit result as the result width has it (R212). -/
def narrowed (s : State) (w : W40) : W40 := if rnd32 s then clearLow8 w else w

/-- `RSQRTS` (R238): the seed of a positive number is any number as accurate as R238 says: the free word where that is
one, else the root (log entry 34). -/
def rsqrtsOf (s : State) (a : W40) : FOut :=
  match classify a with
  | .nan => .invalid s
  | .inf neg => if neg then .invalid s else .exact (fZero false)
  | .num v =>
    if v.m = 0 then .valued (fInf v.neg) true false
    else if v.neg then .invalid s
    else
      let w := narrowed s ((0 : BitVec 1) ++ Config.rsqrtsMagnitude a)
      .exact (if rsqrtsNear a w then w else narrowed s (rsqrtsExact a))

/-! The short float format (R332, R333, R343). -/

/-- A 15-bit short magnitude from the bits `n` of which the low `d` are dropped; whether an inexact result goes up is
not stated (R332: "rounded"). -/
def packRound (v : W32) (n d : Nat) : Nat :=
  n / 2 ^ d + (if n % 2 ^ d ≠ 0 ∧ Config.fpackRoundsUp v = true then 1 else 0)

/-- FPACK's 15-bit magnitude (R332), before the range check: 2^15 or more is past the largest short float. -/
def packMagnitude (v : W32) : Nat :=
  let e := (v.extractLsb' 23 8).toNat
  let f := (v.extractLsb' 0 23).toNat
  if 135 < e then 2 ^ 15
  else if 120 < e then packRound v ((e - 120) * 2 ^ 23 + f) 12
  else if 109 < e then packRound v (2 ^ 23 + f) (133 - e)
  else 0

/-- FPACK (R332): the 16-bit result in bits 15-0, and whether it overflowed. R332 names e > 135 as the overflow; an operand
with e = 135 that rounds past the exponent field 1111 counts as one too, the largest short float with SV 1 (DESIGN
CHOICE, log entry 33). -/
def packShort (v : W32) : W32 × Bool :=
  let m := packMagnitude v
  let sign : Nat := if bitOf v 31 then 2 ^ 15 else 0
  if 2 ^ 15 ≤ m then (BitVec.ofNat 32 (sign + (2 ^ 15 - 1)), true) else (BitVec.ofNat 32 (sign + m), false)

/-- The short float in bits 15-0, and SV in the place of AV (R332). -/
def packOf (v : W32) : FOut := .ofInt (packShort v).1 (packShort v).2 false false

/-- FUNPACK (R333) of bits 15-0, as a 40-bit floating-point word. -/
def unpackShort (v : W32) : W40 :=
  let g := (v.extractLsb' 11 4).toNat
  let f := (v.extractLsb' 0 11).toNat
  let neg := bitOf v 15
  if g ≠ 0 then fWord neg (120 + g) (f * 2 ^ 20)
  else if f = 0 then fZero neg
  else fWord neg (120 - (10 - f.log2)) ((f * 2 ^ (11 - f.log2) - 2 ^ 11) * 2 ^ 20)

end Sys2Proof.Machine
end

