-- ==== Sys2Proof/Machine/Ops.lean ====
section
/-! DEFINITION. The named operations over memory, stacks, loops and registers, the sequencing of one instruction, and
the taking of an interrupt and the return from one. -/

namespace Sys2Proof.Machine

/-! Results. -/

/-- A stop with a fault. -/
def faulted {α : Type} (f : Fault) : Res α := .error (.fault f)

/-- A stop with a refusal. -/
def refused {α : Type} (r : Refusal) : Res α := .error (.refuse r)

/-- Go on only if `ok`. -/
def demand (ok : Bool) (r : Refusal) : Res Unit := if ok then .ok () else refused r

/-- The outcome of an instruction. -/
def toOutcome : Res State → Host.Outcome State Fault Refusal
  | .ok s => .next s
  | .error (.fault f) => .fault f
  | .error (.refuse r) => .refused r

/-! Memory (20_memory.md). -/

/-- The bus that carries an access (R104). -/
inductive Space where
  | dm
  | pm
deriving DecidableEq, Repr

/-- What the map's lines say of an address (R103). -/
def mapAt (p : Params) (a : Nat) : RegionKind :=
  match p.regions.find? (fun r => decide (r.first ≤ a) && decide (a ≤ r.last)) with
  | none => .unmapped
  | some r => r.kind

/-- `ShortWordMap` (R109): the normal word, and whether its least significant half is named. -/
def shortPlace (p : Params) (a : Nat) : Nat × Bool :=
  match p.shortPlaces.lookup a with
  | some w => w
  | none => (p.shortTarget + (a - p.shortBase) / 2, ((a - p.shortBase) % 2 == 0) == p.shortEvenIsLow)

/-- What `MemMap` and `DataWidth` say of an address (R103). Internal memory is there as far as the part has it (R8,
R102), and a short word where an internal word is under it (R109). -/
def regionOf (p : Params) (a : Nat) : RegionKind :=
  match mapAt p a with
  | .internal b w => if p.fitsPart then .internal b w else .unmapped
  | .internalShort =>
    match mapAt p (shortPlace p a).1 with
    | .internal _ _ => if p.fitsPart then .internalShort else .unmapped
    | _ => .unmapped
  | k => k

/-- The word an access at `a` reaches: the address itself, or the normal word of a short-word address. -/
def wordOf (p : Params) (a : Nat) : Nat :=
  match regionOf p a with
  | .internalShort => (shortPlace p a).1
  | _ => a

/-- The key of the lower byte of a half of the 32-bit word at `a`: data bits 15-0 stand in column bits 31-16. The map of
R109 is onto 32-bit words; in a 40- or 48-bit word the model takes column bits 31-16 and 47-32 as well (DESIGN CHOICE,
log entry 57). -/
def halfKey (a : Nat) (low : Bool) : Nat := wordKey a + (if low then 2 else 4)

/-- The content of the word at `a` as the bus carries it (R106); `full` asks for all 48 bits (PX over the PM bus), of
which a 32-bit word has no bits 15-0 (`onPmBus`). -/
def readColumn (m : Memory) (a : Nat) (w : WordWidth) (full : Bool) : Option W48 :=
  match w with
  | .w32 => (m.readBytes (wordKey a + 2) 4).map (fun n => bus32 (BitVec.ofNat 32 n))
  | _ =>
    if full then (m.readBytes (wordKey a) 6).map (BitVec.ofNat 48)
    else (m.readBytes (wordKey a + 1) 5).map (fun n => bus40 (BitVec.ofNat 40 n))

/-- The word at `a` replaced by a bus value (R106): 32-bit words keep bits 47-16; 48-bit words keep bits 47-8 over the
DM bus, bits 47-8 and zeros below over the PM bus, all 48 bits from PX over the PM bus. -/
def writeColumn (m : Memory) (a : Nat) (w : WordWidth) (sp : Space) (full : Bool) (v : W48) : Memory :=
  match w, sp with
  | .w32, _ => m.writeBytes (wordKey a + 2) 4 (low32 v).toNat
  | _, .dm => m.writeBytes (wordKey a + 1) 5 (low40 v).toNat
  | _, .pm => m.writeBytes (wordKey a) 6 (if full then v else bus40 (low40 v)).toNat

/-- A short word on the bus (R109): bits 23-8 of the 40, sign-extended above under MODE1.SSE. -/
def busShort (s : State) (h : BitVec 16) : W48 := bus32 (if sse s then h.signExtend 32 else h.setWidth 32)

/-- The free value of a read the environment answers (R104). -/
def deviceWord (s : State) : Space → W48
  | .dm => drawBits 48 .deviceDm s
  | .pm => drawBits 48 .devicePm s

/-- The word at `a`, of a region of width `w`, was last written with 48 bits (R106, D4). -/
def holds48 (s : State) (a : Nat) (w : WordWidth) : Bool := (w == .w48) != s.rewidth.contains a

/-- What the word at `a` holds, read with 48 bits (`full`) or with 40; a word that was written with the other number of
bits is not read (R110, D4). `none`: nothing is there. -/
def readHeld (s : State) (a : Nat) (w : WordWidth) (full : Bool) : Res (Option W48) :=
  if w = .w32 ∨ holds48 s a w = full then .ok (readColumn s.mem a w full)
  else if (readColumn s.mem a w false).isSome then refused .widthMismatch
  else .ok none

/-- A word of at most 32 bits as a read of 48 bits brings it (PX over the PM bus): the 40 bits of R106, and below them what
no rule states, free (log entry 12). -/
def onPmBus (s : State) (full : Bool) (v : W48) : W48 := if full then low40 v ++ drawBits 8 .pxLow s else v

/-- `MemRead` (R104, R106, R109): the word at `a` as the bus carries it. -/
def readWord (s : State) (sp : Space) (full : Bool) (a : Nat) : Res W48 :=
  match regionOf s.cfg a with
  | .unmapped => faulted .unmapped
  | .iopReg => .ok (deviceWord s sp)
  | .multiprocessor _ => .ok (deviceWord s sp)
  | .internal _ w =>
    (readHeld s a w full).bind fun v =>
      match v with
      | none => faulted .unwrittenMemory
      | some v => .ok (onPmBus s (full && w == .w32) v)
  | .external w =>
    (readHeld s a w full).map fun v =>
      onPmBus s (full && w == .w32) (match v with
      | none => if w = .w32 then bus32 (low32 (deviceWord s sp)) else deviceWord s sp
      | some v => v)
  | .internalShort =>
    match s.mem.readBytes (halfKey (shortPlace s.cfg a).1 (shortPlace s.cfg a).2) 2 with
    | none => faulted .unwrittenMemory
    | some n => .ok (onPmBus s full (busShort s (BitVec.ofNat 16 n)))

/-- The memory after `MemWrite` (R105, R106, R109); a device's word is the environment's. -/
def writtenMem (s : State) (sp : Space) (full : Bool) (a : Nat) (v : W48) : Memory :=
  match regionOf s.cfg a with
  | .unmapped => s.mem
  | .iopReg => s.mem
  | .multiprocessor _ => s.mem
  | .internal _ w => writeColumn s.mem a w sp full v
  | .external w => writeColumn s.mem a w sp full v
  | .internalShort =>
    s.mem.writeBytes (halfKey (shortPlace s.cfg a).1 (shortPlace s.cfg a).2) 2 ((low32 v).extractLsb' 0 16).toNat

/-- The access reaches memory that the model holds. -/
def holdsMemory (p : Params) (a : Nat) : Bool :=
  match regionOf p a with
  | .unmapped => false
  | .iopReg => false
  | .multiprocessor _ => false
  | .internal _ _ => true
  | .external _ => true
  | .internalShort => true

/-- The words last written at another width than their region's, after a write at `a` with 48 bits (`full`) or 40. -/
def writtenWidths (s : State) (full : Bool) (a : Nat) : List Nat :=
  match regionOf s.cfg a with
  | .internal _ .w40 => if full then insertAddr a s.rewidth else s.rewidth.filter (· != a)
  | .external .w40 => if full then insertAddr a s.rewidth else s.rewidth.filter (· != a)
  | .internal _ .w48 => if full then s.rewidth.filter (· != a) else insertAddr a s.rewidth
  | .external .w48 => if full then s.rewidth.filter (· != a) else insertAddr a s.rewidth
  | _ => s.rewidth

/-- The state after a write at `a`: what memory the model holds there changes, and the word counts as written since boot
(R121). -/
def storeWord (s : State) (sp : Space) (full : Bool) (a : Nat) (v : W48) : State :=
  { s with
    mem := writtenMem s sp full a v
    dirty := if holdsMemory s.cfg a then insertAddr (wordOf s.cfg a) s.dirty else s.dirty
    rewidth := writtenWidths s full a }

/-- `MemWrite` (R105). -/
def writeWord (s : State) (sp : Space) (full : Bool) (a : Nat) (v : W48) : Res State :=
  if regionOf s.cfg a = .unmapped then faulted .unmapped else .ok (storeWord s sp full a v)

/-- The first key and the number of the bytes of the internal word that `a` names, none for another address. -/
def internalBytes (p : Params) (a : Nat) : Nat × Nat :=
  match regionOf p a with
  | .internal _ _ => (wordKey a, 6)
  | .internalShort => (halfKey (shortPlace p a).1 (shortPlace p a).2, 2)
  | _ => (0, 0)

/-- A DM access at `a` and a PM access at `b` reach one word of internal memory, the two halves of a word being two short
words, or store to one address (R112, U12). -/
def oneWord (p : Params) (a b : Nat) (stores : Bool) : Bool :=
  (stores && a == b) ||
  (decide ((internalBytes p a).1 < (internalBytes p b).1 + (internalBytes p b).2) &&
    decide ((internalBytes p b).1 < (internalBytes p a).1 + (internalBytes p a).2))

/-! The interrupt latch. -/

/-- Bit `b` of a 32-bit register. -/
def bitMask (b : Nat) : W32 := 1 <<< b

/-- `latch(b)` (R503); dropped while the routine of `b` is in service (R518). -/
def latch (b : Nat) (s : State) : State := { s with irptl := s.irptl ||| (bitMask b &&& ~~~s.imaskp) }

/-! The address generators (45_data_move.md R398 to R401). -/

/-- Post-modify (R399, R400): the new index, and whether it wrapped. Outside the conditions of R400 both are free. The
spec's parameter DagModel is fixed to these rules, R398 to R401 (DESIGN CHOICE, log entry 37). -/
def postModify {w : Nat} (i m l b free : BitVec w) (freeWrap : Bool) : BitVec w × Bool :=
  if l = 0 then (i + m, false)
  else
    let t : Int := (i.toNat : Int) + m.toInt
    let lo : Int := b.toNat
    let hi : Int := lo + l.toNat
    if (l.toNat : Int) < m.toInt.natAbs ∨ (i.toNat : Int) < lo ∨ hi ≤ i.toNat then (free, freeWrap)
    else if 0 ≤ m.toInt ∧ hi ≤ t then (BitVec.ofInt w (t - l.toNat), true)
    else if m.toInt < 0 ∧ t < lo then (BitVec.ofInt w (t + l.toNat), true)
    else (BitVec.ofInt w t, false)

/-- The address DAG1 puts on the bus for a post-modify access through I`i`: bit-reversed for I0 under MODE1.BR0, bit 1
(R393, R401). -/
def dag1Address (s : State) (i : Fin 8) : W32 :=
  if i = 0 && bitOf (effMode1 s) 1 then (dag1Reg s .i i).reverse else dag1Reg s .i i

/-- The same for DAG2: I8 under MODE1.BR8, bit 0 (R394, R401). -/
def dag2Address (s : State) (i : Fin 8) : A24 :=
  if i = 0 && bitOf (effMode1 s) 0 then (dag2Reg s .i i).reverse else dag2Reg s .i i

/-- The index DAG1 leaves, and whether it wrapped. -/
def dag1Modified (s : State) (i m : Fin 8) : W32 × Bool :=
  postModify (dag1Reg s .i i) (dag1Reg s .m m) (dag1Reg s .l i) (dag1Reg s .b i) (drawBits 32 .circular1 s)
    (drawBool .wrapped1 s)

/-- The index DAG2 leaves, and whether it wrapped. -/
def dag2Modified (s : State) (i m : Fin 8) : A24 × Bool :=
  postModify (dag2Reg s .i i) (dag2Reg s .m m) (dag2Reg s .l i) (dag2Reg s .b i) (drawBits 24 .circular2 s)
    (drawBool .wrapped2 s)

/-- Set register `n` of a kind in DAG1. Writing B also loads I (R400). -/
def putDag1 (s t : State) (k : DagKind) (n : Fin 8) (v : W32) : State :=
  let p := dag1Idx s n
  match k with
  | .i => { t with dag1 := { t.dag1 with i := t.dag1.i.set p.val v p.isLt } }
  | .m => { t with dag1 := { t.dag1 with m := t.dag1.m.set p.val v p.isLt } }
  | .l => { t with dag1 := { t.dag1 with l := t.dag1.l.set p.val v p.isLt } }
  | .b => { t with dag1 := { t.dag1 with b := t.dag1.b.set p.val v p.isLt, i := t.dag1.i.set p.val v p.isLt } }

/-- Set register `n` of a kind in DAG2. -/
def putDag2 (s t : State) (k : DagKind) (n : Fin 8) (v : A24) : State :=
  let p := dag2Idx s n
  match k with
  | .i => { t with dag2 := { t.dag2 with i := t.dag2.i.set p.val v p.isLt } }
  | .m => { t with dag2 := { t.dag2 with m := t.dag2.m.set p.val v p.isLt } }
  | .l => { t with dag2 := { t.dag2 with l := t.dag2.l.set p.val v p.isLt } }
  | .b => { t with dag2 := { t.dag2 with b := t.dag2.b.set p.val v p.isLt, i := t.dag2.i.set p.val v p.isLt } }

/-- Post-modify of I`i` by M`m` in DAG1: a wrap of I7 sets STKY.CB7S (bit 17) and requests CB7I (R400, R509). -/
def updateDag1 (s t : State) (i m : Fin 8) : State :=
  let r := dag1Modified s i m
  let t := putDag1 s t .i i r.1
  if r.2 && i = 7 then latch 21 { t with stky := t.stky ||| bitMask 17 } else t

/-- Post-modify of I(8 + `i`) by M(8 + `m`) in DAG2: a wrap of I15 sets STKY.CB15S (bit 18) and requests CB15I. -/
def updateDag2 (s t : State) (i m : Fin 8) : State :=
  let r := dag2Modified s i m
  let t := putDag2 s t .i i r.1
  if r.2 && i = 7 then latch 22 { t with stky := t.stky ||| bitMask 18 } else t

/-! The stacks (R34 to R42). -/

/-- The PC stack is not to be pushed, popped or read right after a write of PCSTKP (R596, U34). -/
def pcStackFree (s : State) : Res Unit := demand s.latentPcstkp.isNone .pcStackAfterPointerWrite

/-- Push on the PC stack (R35, R36, D25): SOVFI when 29 entries are reached and on overflow. A write of PCSTKP is no such
push: see `putPcstkp`. -/
def pushPc (s : State) (a : A24) : State :=
  if h : s.pcstkp.toNat < 30 then
    let s' := { s with
      pcs := s.pcs.set s.pcstkp.toNat a h, endCalls := s.endCalls.set s.pcstkp.toNat false h, pcstkp := s.pcstkp + 1 }
    if s.pcstkp = 28 then latch 3 s' else s'
  else if s.pcstkp = 30 then latch 3 { s with pcstkp := 31 }
  else s

/-- PUSH PCSTK's push: the entry it exposes is not stated (R464, G55). -/
def pushPcFree (s t : State) : State := pushPc t (drawBits 24 .pushedPc s)

/-- Pop the PC stack of `t` (R35), `s` being the state before the instruction: refused when it is empty (U9). When it is
overflowed R35 states no pointer, and what is left in it is free (log entry 30). -/
def popPc (s t : State) : Res State :=
  if t.pcstkp = 0 then refused .emptyStackPop
  else .ok { t with pcstkp := if t.pcstkp = 31 then drawBits 5 .overflowPop s else t.pcstkp - 1 }

/-- The address a return goes to, PCSTK of `t` (R435): refused when the PC stack is empty (U9), free when it is overflowed
(U8). -/
def returnAddress (s t : State) : Res A24 :=
  match pcTop t with
  | some a => .ok a
  | none => if t.pcstkp = 0 then refused .emptyStackPop else .ok (drawBits 24 .pcstk s)

/-- A push finds the loop stacks full: LSOV (bit 25) is set and SOVFI requested (R41, D25). -/
def loopOverflow (s : State) : State := latch 3 { s with stky := s.stky ||| bitMask 25 }

/-- Push both loop stacks; the slots keep what they hold (R40, R460). No DO UNTIL gave the new level a length. -/
def pushLoops (s : State) : State :=
  if h : s.lsp.val < 6 then { s with lens := s.lens.set s.lsp.val 0 h, lsp := ⟨s.lsp.val + 1, by omega⟩ }
  else loopOverflow s

/-- Push a loop (R41, R441): the address word and the length go into the new top level of `t`, and the LCNTR slot becomes
its count; in a loop that is not counter-based that value is free (R38, log entry 54). -/
def pushLoop (s t : State) (w : W32) (len : Fin 4) (counted : Bool) : State :=
  if h : t.lsp.val < 6 then
    { t with
      las := t.las.set t.lsp.val w h
      lens := t.lens.set t.lsp.val len h
      lcs := if counted then t.lcs else t.lcs.set t.lsp.val (drawBits 32 .plainCount s) (by omega)
      lsp := ⟨t.lsp.val + 1, by omega⟩ }
  else loopOverflow t

/-- Pop both loop stacks (R41, R461): refused when empty. -/
def popLoops (s : State) : Res State :=
  if s.lsp.val = 0 then refused .emptyStackPop else .ok { s with lsp := ⟨s.lsp.val - 1, by omega⟩ }

/-- Push (ASTAT, MODE1) on the status stack; when full SSOV (bit 23) is set, SOVFI requested and the pair lost (R42,
R462, D25). -/
def pushStatus (s : State) : State :=
  if s.sts.length < s.cfg.stsDepth then { s with sts := (readSreg s .astat, s.mode1) :: s.sts }
  else latch 3 { s with stky := s.stky ||| bitMask 23 }

/-- Pop (ASTAT, MODE1): the flag inputs are not restored (R463); refused when empty. -/
def popStatus (s : State) : Res State :=
  match s.sts with
  | [] => refused .emptyStackPop
  | p :: l => .ok { s with astat := p.1 &&& ~~~flagInMask, mode1 := p.2, sts := l }

/-- Set the count of loop level `k` (R38). -/
def setCount (s : State) (k : Nat) (v : W32) : State :=
  if h : k < 7 then { s with lcs := s.lcs.set k v h } else s

/-! Loops and the next address (R445 to R448, R451). -/

/-- The length of the innermost loop `l` when it is not counter-based, 3 standing for three and more (R448): as its
DO UNTIL gave it, else from its top address, the top of the PC stack, to its end (log entry 18); right after a write of
PCSTKP the top by the old or the new pointer (R593). -/
def plainLength (s : State) (l : Level) : Option Nat :=
  if l.len = 0 then (pcEntry s (readPcstkp s)).map (fun b => (l.e - b).toNat + 1) else some l.len

/-- The instruction is the one at e - 2 of the counter-based loop `l`. -/
def countTest (s : State) (l : Level) : Bool := l.kind == 3 && s.pc + 2 == l.e

/-- The instruction tests and counts the counter-based loop `l` (R445, R447). -/
def countsHere (s : State) (l : Level) : Bool :=
  countTest s l || ((l.kind == 1 || l.kind == 2) && s.pc == l.e)

/-- No loop of the lowest `n` levels ends at `e`, and one that is not counter-based ends at least two addresses after it
(R449, R599). -/
def apartFrom (s : State) (n : Nat) (e : A24) : Bool :=
  (List.finRange 6).all fun k =>
    decide (n ≤ k.val) ||
    ((levelAt s k).e != e && ((levelAt s k).kind != 0 || decide (e.toNat + 2 ≤ (levelAt s k).e.toNat)))

/-- The instruction is among the last three of the innermost loop, and that loop and one around it end where nested loops
must not: a write of LADDR or PUSH LOOP made them so (R449, R599). -/
def endsClash (s : State) : Bool :=
  match loopTop s with
  | none => false
  | some l => nearEnd l.e s.pc && !apartFrom s (s.lsp.val - 1) l.e

/-- Pop the loop stacks and the PC stack at the end of a loop (R445). -/
def popLoopEnd (s : State) : Res State :=
  (pcStackFree s).bind fun _ => (popLoops s).bind (popPc s)

/-- The end of a loop of three or more instructions: its last two are still to come. -/
def endLongLoop (s : State) (e : A24) : Res State :=
  (popLoopEnd s).map fun t => { t with ending := e :: t.ending }

/-- The end of a short loop with `more` loop-backs still to come (R447, R448). -/
def endShortLoop (s : State) (e : A24) (more : Nat) (counter : Bool) : Res State :=
  (returnAddress s s).bind fun b =>
    (popLoopEnd s).map fun t => { t with tail := some ⟨e, b, more, counter⟩ }

/-- A counter-based loop at its test (R445, R447, R451): `s.lsp - 1` is its level. -/
def countLoop (s : State) (l : Level) : Res State :=
  let counted := setCount s (s.lsp.val - 1) (l.count - 1)
  let forgotten := setCount s (s.lsp.val - 1) (drawBits 32 .shortCount s)
  if l.kind = 3 then (if l.count = 1 then endLongLoop counted l.e else .ok counted)
  else if l.count = (if l.kind = 1 then 3 else 2) then
    endShortLoop forgotten l.e (if l.kind = 1 then 2 else 1) true
  else if l.count = 1 then popLoopEnd forgotten
  else .ok counted

/-- A loop that is not counter-based, at an instruction that may test it (R445, R448). With no length, where PUSH LOOP or a
write of LADDR made it and the PC stack holds no top address, it is not tested (DESIGN CHOICE, log entry 18). -/
def testPlainLoop (s : State) (l : Level) : Res State :=
  match plainLength s l with
  | none => .ok s
  | some n =>
    if s.pc + 2 = l.e ∧ 3 ≤ n then
      (if terminates s l.count l.term then endLongLoop s l.e else .ok s)
    else if s.pc = l.e ∧ n ≤ 2 then
      (if terminates s l.count l.term then endShortLoop s l.e (if n = 1 then 2 else 1) false else .ok s)
    else .ok s

/-- The loop termination test of the instruction at `s.pc`, on the state at its start: made at every execution of that
instruction with the loop on top of the stacks (R445). -/
def loopTest (s : State) : Res State :=
  match loopTop s with
  | none => .ok s
  | some l =>
    if l.kind = 0 then testPlainLoop s l
    else if countsHere s l then countLoop s l
    else .ok s

/-- The next address of an instruction outside a running-out loop's end (R446 (2) and (3)), and whether it loops
back. -/
def loopNext (s : State) : Res (State × A24 × Bool) :=
  match loopTop s with
  | none => .ok (s, s.pc + 1, false)
  | some l =>
    if l.e = s.pc then
      (pcStackFree s).bind fun _ => (returnAddress s s).map fun b => (s, b, true)
    else .ok (s, s.pc + 1, false)

/-- `NEXT` (R446), after the loop test. -/
def nextAddress (s : State) : Res (State × A24 × Bool) :=
  match s.tail with
  | none => loopNext s
  | some t =>
    if s.pc = t.e then
      if 0 < t.more then .ok ({ s with tail := some { t with more := t.more - 1 } }, t.b, true)
      else .ok ({ s with tail := none }, s.pc + 1, false)
    else loopNext s

/-- Move past the instruction: the target of a delayed branch after its second slot (R430), else `next`; the
latencies of the previous instruction's writes have passed. -/
def advance (s t : State) (next : A24) (back : Bool) : State :=
  let landing := match s.dbr with
    | none => false
    | some d => !d.two
  { t with
    pc := match s.dbr with
      | none => next
      | some d => if d.two then next else d.target
    dbr := match s.dbr with
      | none => none
      | some d => if d.two then some { d with two := false } else none
    slots := s.slots.filter (· != s.pc)
    ending := t.ending.filter (· != s.pc)
    nonSeq := if back || landing then 1 else s.nonSeq - 1
    latent := []
    latentPcstkp := none
    counterLoaded := false
    justEntered := false
    drawn := s.drawn + 1 }

/-- What the sequencer does with every instruction, whatever it computes: the loop test, and the next address in `pc`.
The instruction's own effects come after it, reading the state before it (R14). At the end of a loop nested as R449
forbids it refuses. -/
def sequenced (s : State) : Res State :=
  (demand (!endsClash s) .nestedLoopEnds).bind fun _ =>
    (loopTest s).bind fun t => (nextAddress t).map fun n => advance s n.1 n.2.1 n.2.2

/-- An instruction whose own effect on the sequenced state is `f`. -/
def always (s : State) (f : State → Res State) : Host.Outcome State Fault Refusal :=
  toOutcome ((sequenced s).bind f)

/-- A conditional instruction (R147, R422): with a false condition only `skip` happens after the sequencing. IF NOT LCE
must not follow a write of CURLCNTR from memory (R449). -/
def conditional (c : Cond) (s : State) (skip : State → State) (f : State → Res State) :
    Host.Outcome State Fault Refusal :=
  toOutcome ((demand (!(c == .lce && s.counterLoaded)) .notLceAfterCounterLoad).bind fun _ =>
    (sequenced s).bind fun t => if condition s c then f t else .ok (skip t))

/-! Computations. -/

/-- What one compute slot does: data register writes in rising precedence (R25), an MR write, and flags. -/
structure Effect where
  regs : List (Reg × W40)
  mr : Option (Fin 2 × W80)
  flags : FlagOut
deriving DecidableEq, Repr

/-- An empty compute slot. -/
def Effect.none : Effect := ⟨[], .none, .none⟩

/-- Put a result in a data register, with the flags. -/
def Effect.toReg (n : Reg) (v : W40) (f : FlagOut) : Effect := ⟨[(n, v)], .none, f⟩

/-- Put a result in MRF or MRB, with the flags. -/
def Effect.toMr (s : State) (back : Bool) (v : W80) (f : FlagOut) : Effect := ⟨[], some (mrIdx s back, v), f⟩

/-- Flags alone. -/
def Effect.flagsOnly (f : FlagOut) : Effect := ⟨[], .none, f⟩

/-- Two units at work: `high` wins a register both write (R25). -/
def Effect.beside (low high : Effect) : Effect :=
  ⟨low.regs ++ high.regs, (match low.mr with
    | .none => high.mr
    | some p => some p), low.flags.both high.flags⟩

/-- Write the data registers of a list, later entries winning. -/
def putRegs (s : State) : State → List (Reg × W40) → State
  | t, [] => t
  | t, (n, v) :: l => putRegs s (putReg s t n v) l

/-- Write an MR register. -/
def putMr (t : State) : Option (Fin 2 × W80) → State
  | .none => t
  | some (k, v) => { t with mr := t.mr.set k.val v k.isLt }

/-- Write flags: ASTAT bits, and STKY bits that only ever go to 1 (R51, R52). -/
def putFlags (t : State) (f : FlagOut) : State :=
  { t with astat := f.onAstat t.astat, stky := t.stky ||| f.sticky }

/-- Carry out a computation that read `s` on the sequenced state `t`. -/
def applyEffect (s t : State) (e : Effect) : State := putFlags (putMr (putRegs s t e.regs) e.mr) e.flags

/-- A computation as an instruction of its own. -/
def runCompute (e : Effect) (s : State) : Host.Outcome State Fault Refusal :=
  always s fun t => .ok (applyEffect s t e)

/-- A computation that may be refused, as an instruction of its own. -/
def tryCompute (e : Res Effect) (s : State) : Host.Outcome State Fault Refusal :=
  always s fun t => e.map (applyEffect s t)

/-! Register writes (R391, R402). -/

/-- Note an explicit write of a latency-1 register (R593). -/
def noteWrite (t : State) (r : Sreg) (old : W32) : State := { t with latent := (r, old) :: t.latent }

/-- IRPTL bits no program may set: 0, 1, 2 and 9 (R151, R519). -/
def irptlReserved : W32 := 0x00000207

/-- An explicit write of a system register: `s` before the instruction, `t` after its other effects. ASTAT and STKY end
with the written value whatever flags the instruction computed (R51); bits that follow inputs and stacks are not
stored; IRPTL bits of routines in service stay 0 (R518). The post-modify of an index register comes after it (R397), and
so does the timer: what they latch is set whatever was written (log entry 39). -/
def putSreg (s t : State) (r : Sreg) (v : W32) : Res State :=
  match r with
  | .mode1 => .ok (noteWrite { t with mode1 := v } .mode1 s.mode1)
  | .mode2 => .ok (noteWrite { t with mode2 := v } .mode2 s.mode2)
  | .irptl =>
    if v &&& irptlReserved = 0 then
      .ok (noteWrite { t with irptl := v &&& ~~~t.imaskp } .irptl s.irptl)
    else refused .reservedInterruptBit
  | .imask => .ok (noteWrite { t with imask := v } .imask s.imask)
  | .imaskp => .ok (noteWrite { t with imaskp := v, irptl := t.irptl &&& ~~~v } .imaskp s.imaskp)
  | .astat => .ok (noteWrite { t with astat := v &&& ~~~flagInMask } .astat s.astat)
  | .stky => .ok (noteWrite { t with stky := v &&& ~~~stackStatusMask } .stky s.stky)
  | .ustat1 => .ok { t with ustat1 := v }
  | .ustat2 => .ok { t with ustat2 := v }

/-- A register of the PC stack or of the loop stacks: none is written in a delay slot (R440, U3). -/
def stackRegister : Ureg → Bool
  | .pcstk => true
  | .pcstkp => true
  | .laddr => true
  | .curlcntr => true
  | .lcntr => true
  | _ => false

/-- The instruction is the one at e - 2 of an active counter-based loop (R449, R597). -/
def atCountTest (s : State) : Bool :=
  (match loopTop s with
   | none => false
   | some l => countTest s l) || (outerLoops s).any (countTest s)

/-- An instruction with `dst` as its destination may stand here, whatever its condition: no register of a stack in a
delay slot (R440, U3), no write of CURLCNTR from memory at the counter's test (R449, R597). -/
def mayStand (s : State) (dst : Ureg) (mem : Bool) : Res Unit :=
  (demand (!(inSlot s && stackRegister dst)) .forbiddenInDelaySlot).bind fun _ =>
    demand (!(mem && dst == .curlcntr && atCountTest s)) .counterFromMemoryAtTest

/-- An instruction with `dst` as its destination, where it may stand. -/
def writing (dst : Ureg) (mem : Bool) (s : State) (o : Host.Outcome State Fault Refusal) :
    Host.Outcome State Fault Refusal :=
  match mayStand s dst mem with
  | .ok _ => o
  | .error e => toOutcome (.error e)

/-- Write PCSTK, the top of the PC stack (R34); with no entry to write nothing happens (log entry 14). Another address is no
longer that of a CALL. -/
def putPcstk (s t : State) (a : A24) : Res State :=
  (pcStackFree s).bind fun _ =>
    if h : 0 < s.pcstkp.toNat ∧ s.pcstkp.toNat ≤ 30 then
      .ok { t with
        pcs := t.pcs.set (s.pcstkp.toNat - 1) a (by omega)
        endCalls := t.endCalls.set (s.pcstkp.toNat - 1) (t.endCalls[s.pcstkp.toNat - 1] && t.pcs[s.pcstkp.toNat - 1] == a)
          (by omega) }
    else .ok t

/-- Write PCSTKP (R35, R596): no effect while overflowed, right after another write by the old or the new value (R593);
the next instruction may still read the old value. A value of 29 or more requests no SOVFI: R36 and R508 name pushes, R35
calls the write a way to push, and the spec does not say which holds here (DESIGN CHOICE, log entry 30). -/
def putPcstkp (s t : State) (v : BitVec 5) : Res State :=
  if readPcstkp s = 31 then .ok t
  else if t.pcstkp = s.pcstkp then .ok { t with pcstkp := v, latentPcstkp := some s.pcstkp }
  else refused .doubleWrite

/-- Write CURLCNTR (R39): no effect where no counter-based loop is active. Where one is but the innermost loop is not
counter-based nothing is written either: R39 names the loop currently executing, and that one has no count (DESIGN CHOICE,
log entry 14). At a counter-based innermost loop's test the same instruction
also counts: then what is left is free (log entry 22). At the first instruction of a two-instruction loop the value
becomes the count `left` of R447: R39 says that a write changes the count of the loop executing, R447 names no such
effect (DESIGN CHOICE, log entry 19). -/
def putCurlcntr (s t : State) (v : W32) (mem : Bool) : State :=
  let t := { t with counterLoaded := mem }
  match loopTop s with
  | none => t
  | some l =>
    if l.kind = 0 then t
    else if countsHere s l then setCount t (s.lsp.val - 1) (drawBits 32 .counterWrite s)
    else setCount t (s.lsp.val - 1) v

/-- Write LCNTR (R40): discarded while the loop counter stack is full. -/
def putLcntr (s t : State) (v : W32) : State := if s.lsp.val < 6 then setCount t s.lsp.val v else t

/-- Write LADDR (R37): with no loop there is no entry to write (log entry 14). The length that a DO UNTIL gave the level
is no longer its. -/
def putLaddr (s t : State) (v : W32) : State :=
  if h : 0 < s.lsp.val then
    { t with las := t.las.set (s.lsp.val - 1) v (by omega), lens := t.lens.set (s.lsp.val - 1) 0 (by omega) }
  else t

/-- Where a value written to a universal register comes from: it matters to CURLCNTR (memory) and to PX (all 48 bits of
the PM bus). -/
inductive Source where
  /-- A register or an immediate, over 40 bits. -/
  | register
  /-- Memory, over 40 bits. -/
  | memory
  /-- Memory over the 48-bit PM bus. -/
  | programMemory
deriving DecidableEq, Repr

/-- Write PX (R404): all 48 bits from the PM bus, else bits 47-8; then the low byte is free (log entry 12). -/
def putPx (s t : State) (v : W48) (src : Source) : State :=
  { t with px := if src = .programMemory then v else low40 v ++ drawBits 8 .pxLow s }

/-- Write a universal register with a bus value (R391, R402, R107). -/
def putUreg (s t : State) (u : Ureg) (v : W48) (src : Source) : Res State :=
  match u with
  | .r n => .ok (putReg s t n (low40 v))
  | .dag1 k n => .ok (putDag1 s t k n (low32 v))
  | .dag2 k n => .ok (putDag2 s t k n ((low32 v).setWidth 24))
  | .px => .ok (putPx s t v src)
  | .px1 => .ok { t with px := t.px.extractLsb' 16 32 ++ (low32 v).setWidth 16 }
  | .px2 => .ok { t with px := low32 v ++ t.px.extractLsb' 0 16 }
  | .faddr => refused .readOnlyRegister
  | .daddr => refused .readOnlyRegister
  | .pc => refused .readOnlyRegister
  | .pcstk => putPcstk s t ((low32 v).setWidth 24)
  | .pcstkp => putPcstkp s t ((low32 v).setWidth 5)
  | .laddr => .ok (putLaddr s t (low32 v))
  | .curlcntr => .ok (putCurlcntr s t (low32 v) (src != .register))
  | .lcntr => .ok (putLcntr s t (low32 v))
  | .sys r => putSreg s t r (low32 v)
  | .tcount => .ok { t with tcount := low32 v }
  | .tperiod => .ok { t with tperiod := low32 v }

/-- A read of a universal register by an instruction; PCSTK must not be read right after a write of PCSTKP (R596). -/
def takeUreg (s : State) (u : Ureg) : Res W48 :=
  (if u = .pcstk then pcStackFree s else .ok ()).map fun _ => readUreg s u

/-! Branches (R430 to R440, R449). -/

/-- An instruction R440 keeps out of delay slots. -/
def notInSlot (s : State) : Res Unit := demand (!inSlot s) .forbiddenInDelaySlot

/-- A nondelayed CALL may stand among the last three instructions of the loop `l`, of length `n` when it is not
counter-based: not in a one-instruction loop nor in a two-instruction loop run once (R449). -/
def callMayEnd (s : State) (l : Level) (n : Option Nat) : Bool :=
  !nearEnd l.e s.pc || l.kind == 3 || (l.kind == 2 && l.count != 1) || (l.kind == 0 && n != some 1)

/-- The same for every active loop, and for a short loop running out. -/
def callMayEndLoop (s : State) : Bool :=
  (match loopTop s with
   | none => true
   | some l => callMayEnd s l (plainLength s l)) &&
  (outerLoops s).all (fun l => callMayEnd s l (some l.len)) &&
  (match s.tail with
   | none => true
   | some t => t.e != t.b || s.pc != t.e)

/-- A branch may stand here: not in a delay slot, not among the last three instructions of a loop (R440, R449). -/
def branchHere (s : State) (nondelayedCall : Bool) : Res Unit :=
  (notInSlot s).bind fun _ =>
    demand (!atLoopEnd s || (nondelayedCall && callMayEndLoop s)) .branchAtLoopEnd

/-- `j` is one of the last two addresses of the innermost loop, of three or more instructions (R449, U26). -/
def intoLoopEnd (s : State) (j : A24) : Bool :=
  match loopTop s with
  | none => false
  | some l =>
    (j == l.e || j + 1 == l.e) &&
    (l.kind == 3 || (l.kind == 0 && plainLength s l != some 1 && plainLength s l != some 2))

/-- A jump or call to `j` does not skip the innermost loop's test (R449). -/
def targetFree (s : State) (j : A24) : Res Unit := demand (!intoLoopEnd s j) .branchIntoLoopEnd

/-- The two locations after a delayed branch at `s.pc` are restricted until they are executed, whether it is taken or
not (R440). -/
def restrictSlots (s t : State) : State := { t with slots := (s.pc + 1) :: (s.pc + 2) :: t.slots }

/-- Go to `j`: at once, or after two more instructions (R430). -/
def goTo (s t : State) (j : A24) (db : Bool) : State :=
  if db then { restrictSlots s t with dbr := some ⟨j, true⟩ } else { t with pc := j, nonSeq := 1 }

/-- A branch not taken: a delayed one still restricts its slots (R440). -/
def untaken (s t : State) (db : Bool) : State := if db then restrictSlots s t else t

/-- The target of a jump (R431 to R433): absolute; the address of the branch plus the offset; I + M of DAG2, which is
not changed. -/
def targetOf (s : State) : Target → A24
  | .abs a => a
  | .rel off => s.pc + off
  | .ind m i => dag2Reg s .i i + dag2Reg s .m m

/-- A branch with the computation `e` beside it and the effect `f` when taken. -/
def branch (c : Cond) (db call : Bool) (e : Res Effect) (s : State) (f : State → Res State) :
    Host.Outcome State Fault Refusal :=
  toOutcome ((branchHere s (call && !db)).bind fun _ =>
    (demand (!(c == .lce && s.counterLoaded)) .notLceAfterCounterLoad).bind fun _ =>
    (sequenced s).bind fun t =>
      if condition s c then e.bind fun e => f (applyEffect s t e) else .ok (untaken s t db))

/-- A jump (R431). -/
def jumpTo (s t : State) (j : A24) (db : Bool) : Res State :=
  (targetFree s j).map fun _ => goTo s t j db

/-- The push of a call at `s.pc`: at the end of a loop the entry asks for RTS (LR) (R449). -/
def pushCall (s t : State) (a : A24) : State :=
  let u := pushPc t a
  if h : t.pcstkp.toNat < 30 then { u with endCalls := u.endCalls.set t.pcstkp.toNat (atLoopEnd s) h } else u

/-- A call (R434): the return address is the next address, or the third after the branch. -/
def callTo (s t : State) (j : A24) (db : Bool) : Res State :=
  (targetFree s j).bind fun _ => (pcStackFree s).map fun _ =>
    goTo s (pushCall s t (if db then s.pc + 3 else t.pc)) j db

/-- A return (R435): to PCSTK, which is popped. -/
def returnTo (s t : State) (db : Bool) : Res State :=
  (pcStackFree s).bind fun _ => (returnAddress s t).bind fun j => (popPc s t).map fun t => goTo s t j db

/-- `j` is one of the last two addresses of the loop `l`, which is counter-based. -/
def countingEnd (j : A24) (l : Level) : Bool := l.kind != 0 && (j == l.e || j + 1 == l.e)

/-- The return address is one of the last two of an active counter-based loop (R437). -/
def returnsIntoCounting (s : State) : Bool :=
  match returnAddress s s with
  | .error _ => false
  | .ok j => (match loopTop s with
    | none => false
    | some l => countingEnd j l) || (outerLoops s).any (countingEnd j)

/-- The top of the PC stack was pushed by a CALL among the last three instructions of a loop (R449). -/
def fromEndCall (s : State) : Bool :=
  if h : 0 < s.pcstkp.toNat ∧ s.pcstkp.toNat ≤ 30 then s.endCalls.get ⟨s.pcstkp.toNat - 1, by omega⟩ else false

/-- A return takes RTS (LR) and neither RTS nor RTI (R437, R449, U32, U33). -/
def needsLr (s : State) : Bool := returnsIntoCounting s || fromEndCall s

/-- Where JUMP (LA) may go, once the inner loop is popped: not to the last instruction of an outer loop that is not
counter-based (R438), not past the test of a counter-based one (R449). -/
def abortTarget (t : State) (j : A24) : Res Unit :=
  match loopTop t with
  | none => .ok ()
  | some l =>
    if l.kind = 0 then demand (j != l.e) .abortToOuterLoopEnd
    else demand (!intoLoopEnd t j) .branchIntoLoopEnd

/-- The loop abort of JUMP (LA) (R438): the loop stacks and the PC stack are popped once. -/
def abortLoop (s t : State) (j : A24) : Res State :=
  (demand (s.lsp.val != 0) .abortOutsideLoop).bind fun _ =>
  (pcStackFree s).bind fun _ =>
  (popLoops t).bind fun t =>
  (abortTarget t j).bind fun _ => popPc s t

/-- The lowest-numbered set bit (R506: the highest priority). -/
def lowestBit (w : W32) : Option Nat := (List.range 32).find? (bitOf w)

/-- Clear bit `b` of IMASKP and of IRPTL (R439, R517). -/
def leaveService (b : Nat) (t : State) : State :=
  { t with imaskp := t.imaskp &&& ~~~bitMask b, irptl := t.irptl &&& ~~~bitMask b }

/-- The clear-interrupt modifier (R439, D27): the highest-priority set bit of IMASKP, and the same of IRPTL. Right after a
write of IMASKP the bit is that of the old or the new value (R593, log entry 10). -/
def clearCurrent (s t : State) : State :=
  match lowestBit (readImaskp s) with
  | none => t
  | some b => leaveService b t

/-! DO UNTIL (R441, R442, R449). -/

/-- The loop type code (R37, R441): `length` is the end address less the address of the DO UNTIL. -/
def loopKind (length : A24) (term : Cond) : Nat :=
  if term = .lce then (if length = 1 then 1 else if length = 2 then 2 else 3) else 0

/-- The length a level keeps: 1, 2, or 3 for three and more (R441). -/
def loopLength (length : A24) : Fin 4 := if length = 1 then 1 else if length = 2 then 2 else 3

/-- A new loop with end address `e` may be nested in the active ones (R449, R599). -/
def endsApart (s : State) (e : A24) : Bool := apartFrom s s.lsp.val e

/-- DO UNTIL at `s.pc` with end address `e` (R441): the loop and the top-of-loop address are pushed. -/
def startLoop (s t : State) (e : A24) (term : Cond) : Res State :=
  (notInSlot s).bind fun _ =>
  (demand (!atLoopEnd s) .branchAtLoopEnd).bind fun _ =>
  (demand (endsApart s e) .nestedLoopEnds).bind fun _ =>
  (pcStackFree s).map fun _ =>
    pushPc (pushLoop s t (levelWord e term (loopKind (e - s.pc) term)) (loopLength (e - s.pc)) (term == .lce))
      (s.pc + 1)

/-! Interrupts (60_exceptions.md). -/

/-- The interrupts whose entry pushes ASTAT and MODE1: IRQ2-0, both timer interrupts and VIRPT (R516). -/
def pushesStatus (b : Nat) : Bool := b == 4 || b == 5 || b == 6 || b == 7 || b == 8 || b == 23

/-- The temporary mask TMASK (R522); NESTM is MODE1 bit 11 (R47). -/
def tmask (s : State) : W32 :=
  match lowestBit s.imaskp with
  | none => s.imask
  | some h => if bitOf s.mode1 11 then s.imask &&& (bitMask h - 1) else 0

/-- The valid request (R505): IRPTEN is MODE1 bit 12; reset, bit 1, is outside the rule (R525). -/
def validRequest (s : State) : Option Nat :=
  if bitOf s.mode1 12 then lowestBit (s.irptl &&& tmask s &&& ~~~bitMask 1) else none

/-- An entry may happen at this boundary (R514 (a) to (d)). -/
def entryAllowed (s : State) : Bool :=
  s.dbr.isNone && s.tail.isNone && !s.justEntered &&
  !s.latent.any (fun p => p.1 == .irptl || p.1 == .imask || p.1 == .imaskp || p.1 == .mode1)

/-- The address an entry saves: that of the next instruction, or the one after the IDLE (R467, R526). -/
def entryReturn (s : State) : A24 :=
  match s.idle with
  | none => s.pc
  | some a => a

/-- TAKING AN INTERRUPT (R510): push the return address; push the status stack for some; clear IRPTL[b] and set
IMASKP[b]; go to the vector. ASTAT, MODE1 and IMASK stay. The restricted slots of an untaken delayed branch stay, so that
they are restricted on the return (R440). Right after a load of CURLCNTR from memory the first instruction of the routine
counts as the one that follows it (R449; DESIGN CHOICE, log entry 55). -/
def takeInterrupt (s : State) (b : Nat) : State :=
  let t := pushPc s (entryReturn s)
  let t := if pushesStatus b then pushStatus t else t
  { t with
    irptl := t.irptl &&& ~~~bitMask b
    imaskp := t.imaskp ||| bitMask b
    pc := ivtBase s.cfg + BitVec.ofNat 24 (4 * b)
    idle := none
    justEntered := true
    nonSeq := 2
    latentPcstkp := none
    irqHeld := 0
    drawn := s.drawn + 1 }

/-- RETURN FROM INTERRUPT (R517): pop the return address; for the interrupt being serviced restore the status it
pushed and clear its bits; go back. With IMASKP = 0 only the return happens (U30). Right after a write of IMASKP the old
or the new value counts (R593, log entry 10). After a nondelayed RTI the restored
values are in effect at once; after a delayed one the next instruction is in the latency (R593). A restored ASTAT replaces
the flags of a computation beside the RTI (DESIGN CHOICE, log entry 40). -/
def returnInterrupt (s t : State) (db : Bool) : Res State :=
  (returnTo s t db).bind fun t =>
    match lowestBit (readImaskp s) with
    | none => .ok t
    | some h =>
      if pushesStatus h then
        (popStatus t).map fun t =>
          leaveService h (if db then noteWrite (noteWrite t .astat s.astat) .mode1 s.mode1 else t)
      else .ok (leaveService h t)

/-- The arithmetic interrupt requests (R507): FIXI 24, FLTOI 25, FLTUI 26, FLTII 27, each while its STKY bits are set
and its routine is not in service. -/
def latchArithmetic (s : State) : State :=
  let k := effStky s
  let req := flagBit 24 (bitOf k 2 || bitOf k 6) ||| flagBit 25 (bitOf k 1 || bitOf k 7) |||
    flagBit 26 (bitOf k 0 || bitOf k 8) ||| flagBit 27 (bitOf k 5 || bitOf k 9)
  { s with irptl := s.irptl ||| (req &&& ~~~s.imaskp) }

/-- One timer tick (R540, D13); the enable is MODE2 bit 5, as the instruction of this step had it. -/
def timerTick (s t : State) : State :=
  if bitOf (effMode2 s) 5 then
    if t.tcount = 0 then latch 4 (latch 23 { t with tcount := t.tperiod })
    else { t with tcount := t.tcount - 1 }
  else t

/-! The environment (R17, R119, R502). -/

/-- The requests the environment can raise: bits 5 to 8 and 10 to 20 (R502). A part without link ports has no source for
bits 14, 15 and 20; one with six DMA channels, two of them for the external port, has none for bits 18 and 19 (R3; log
entry 56). -/
def envRequests (p : Part) : W32 :=
  0x00033DE0 ||| (if p.linkPorts = 0 then 0 else 0x0010C000) ||| (if p.dmaChannels = 6 then 0 else 0x000C0000)

/-- The word at `a` is configured for 48 bits (R106). -/
def configured48 (p : Params) (a : Nat) : Bool :=
  match regionOf p a with
  | .internal _ .w48 => true
  | .external .w48 => true
  | _ => false

/-- A word of `EnvWritable` written by another agent (R119), whole and at the width its region is configured for: 16, 32,
40 or 48 bits of the bus value; the word counts as written since boot (R121). -/
def envWrite (s : State) (w : Nat × W48) : State :=
  if s.cfg.envWritable.any (fun r => decide (r.1 ≤ w.1) && decide (w.1 ≤ r.2)) then
    storeWord s .pm (configured48 s.cfg w.1) w.1 w.2
  else s

/-- What the environment does at a boundary: pins, requests and memory, or a reset (R570). -/
def envAct (s : State) (e : EnvIn) : State :=
  if e.reset then
    { State.resetWith s.cfg with
      flagIn := e.flags, busMaster := e.busMaster, inputs := s.inputs, drawn := s.drawn + 1 }
  else
    let s := e.writes.foldl envWrite s
    { s with
      flagIn := e.flags
      busMaster := e.busMaster
      irptl := s.irptl ||| (e.irq &&& envRequests s.cfg.part &&& ~~~s.imaskp) }

/-- The environment's part of a boundary: its next action, if any. -/
def envStep (s : State) : State :=
  match s.inputs with
  | [] => s
  | e :: l => envAct { s with inputs := l } e

/-! Instruction fetch (R111, R121). -/

/-- The instruction word at the pc. -/
def fetchWord (s : State) : Res W48 :=
  if s.dirty.contains s.pc.toNat then refused .selfModifiedCode
  else
    match regionOf s.cfg s.pc.toNat with
    | .unmapped => faulted .unmapped
    | .internal _ .w48 =>
      match s.mem.readBytes (wordKey s.pc.toNat) 6 with
      | none => faulted .unwrittenMemory
      | some n => .ok (BitVec.ofNat 48 n)
    | .external .w48 =>
      match s.mem.readBytes (wordKey s.pc.toNat) 6 with
      | none => faulted .unwrittenMemory
      | some n => .ok (BitVec.ofNat 48 n)
    | _ => faulted .notInstructionWord

/-- `Decode` (R142, D1): the words the parameter names, else the model's own layout. `none`: no instruction. -/
def decodeFor (p : Params) (w : W48) : Option Instr :=
  match p.decodes.lookup w with
  | some d => d
  | none => (decode w).toOption

/-- The instruction at the pc: a word the decoder rejects is a fault (R150). -/
def fetchInstr (s : State) : Res Instr :=
  (fetchWord s).bind fun w =>
    match decodeFor s.cfg w with
    | some i => .ok i
    | none => faulted .illegalInstruction

end Sys2Proof.Machine
end

