-- ==== Sys2Proof/Machine/Boundary.lean ====
section
/-! DEFINITION. What happens at an instruction boundary, but for the instruction itself. -/

namespace Sys2Proof.Machine

/-- The request an entry could be made for at this boundary (R505, R514). -/
def entryWanted (s : State) : Option Nat := if entryAllowed s then validRequest s else none

/-- The entry waits for a further boundary: at most `IRQ_DELAY_MAX` times (R514). -/
def entryWaits (s : State) : Bool := decide (s.irqHeld < s.cfg.irqDelayMax) && drawBool .irqDelay s

/-- The interrupt entered at this boundary. -/
def entryNow (s : State) : Option Nat := if entryWaits s then none else entryWanted s

/-- Count a boundary at which a valid request waits; with none the count starts again. -/
def holdRequest (s : State) : State :=
  match validRequest s with
  | none => { s with irqHeld := 0 }
  | some _ => if entryAllowed s then { s with irqHeld := s.irqHeld + 1 } else s

/-- One step of waiting in IDLE: the timer goes on, nothing else changes (R467, R540). -/
def waitStep (s : State) : State := timerTick s { s with latent := [], latentPcstkp := none, drawn := s.drawn + 1 }

/-- The run has ended: the pc is at `HaltAddr` and no interrupt is in service (D19). -/
def runIsOver (s : State) : Bool := s.cfg.haltAddr == some s.pc && s.imaskp == 0

/-- Six bytes stored at the pc as an instruction the boot left there. -/
def placeWord (s : State) (w : Nat) : State :=
  { s with
    mem := s.mem.writeBytes (wordKey s.pc.toNat) 6 w
    dirty := s.dirty.filter (· != s.pc.toNat)
    rewidth := s.rewidth.filter (· != s.pc.toNat)
    idle := none }

end Sys2Proof.Machine
end

