-- ==== Sys2Proof/Machine/AluFixed.lean ====
section
/-! DEFINITION. The ALU on fixed-point operands (40_alu_fixed.md). `comp<Op>` is what the operation does in a compute slot,
`exec<Op>` the same as an instruction of its own. -/

namespace Sys2Proof.Machine

/-- The adder's output (R172): the word written, overflow and carry out. -/
structure SumOut where
  word : W32
  av : Bool
  ac : Bool
deriving DecidableEq, Repr

/-- The value a saturated overflow delivers (R172): by the sign of the exact sum. -/
def saturated (neg : Bool) : W32 := if neg then 0x80000000 else 0x7FFFFFFF

/-- `ADD32(a, b, c)` (R172). -/
def add32 (sat : Bool) (a b : W32) (c : Bool) : SumOut :=
  let cin : BitVec 33 := if c then 1 else 0
  let u : BitVec 33 := a.setWidth 33 + b.setWidth 33 + cin
  let v : BitVec 33 := a.signExtend 33 + b.signExtend 33 + cin
  let av := v.getLsbD 32 != v.getLsbD 31
  ⟨if av && sat then saturated (v.getLsbD 32) else v.setWidth 32, av, u.getLsbD 32⟩

/-- The ALU flags of a fixed-point result (R171): AZ and AN from the word written (D11), AV, AC and AS as given. -/
def fixedFlags (r : W32) (av ac as : Bool) : AluFlags := ⟨r == 0, av, bitOf r 31, ac, as, false, false⟩

/-- A sum put in Rn (R173): AOS is set with AV. -/
def fixedSum (s : State) (n : Reg) (a b : W32) (c : Bool) : Effect :=
  let o := add32 (alusat s) a b c
  .toReg n (put32 o.word) (aluOut (fixedFlags o.word o.av o.ac false) (aluSticky false false o.av false))

/-- A result whose AV, AC and AS are 0, put in Rn (R185 to R192). -/
def fixedPlain (n : Reg) (r : W32) : Effect :=
  .toReg n (put32 r) (aluOut (fixedFlags r false false false) 0)

/-- The average (R177): the 33-bit sum halved; the discarded bit is truncated under TRUNC, else rounded to even. -/
def average (truncate : Bool) (x y : W32) : W32 :=
  let v : BitVec 33 := x.signExtend 33 + y.signExtend 33
  v.extractLsb' 1 32 + (if !truncate && v.getLsbD 0 && v.getLsbD 1 then 1 else 0)

/-- The average with the discarded bit rounded as the field of `Numerics` says (R177, G8): up, down, or, where the
parameters name neither, as the reference. -/
def averaged (s : State) (x y : W32) : W32 :=
  let r := fx (numeric s .rAvg (put32 x) (put32 y) (.ofInt (average (trunc s) x y) false false false)).word
  let down := average true x y
  if r = down ∨ (r = down + 1 ∧ (x + y).getLsbD 0 = true) then r else average (trunc s) x y

/-- The average put in Rn (R177): AC is the carry out of the adder, AV 0. -/
def fixedAverage (s : State) (n : Reg) (x y : W32) : Effect :=
  let r := averaged s x y
  .toReg n (put32 r) (aluOut (fixedFlags r false (add32 false x y false).ac false) 0)

/-- The magnitude `|x|` modulo 2^32 (R184). -/
def magnitude (x : W32) : W32 := if bitOf x 31 then 0 - x else x

/-- `CLIP x BY y` (R192); with y = 0x8000 0000 the result is not stated. With x = 0x8000 0000, whose magnitude does not fit
the signed comparison of R192 either, exact magnitudes are compared, so the result is minus |y| (DESIGN CHOICE, log entry
36). -/
def clip (x y : W32) : W32 :=
  if y = 0x80000000 then Config.clipByMinimum x
  else if x.toInt.natAbs < y.toInt.natAbs then x
  else if bitOf x 31 then 0 - magnitude y else magnitude y

/-- `Rn = Rx + Ry` (R173). -/
def compRAdd (n x y : Reg) (s : State) : Effect :=
  fixedSum s n (regFx s x) (regFx s y) false

/-- The same as an instruction of its own. -/
def execRAdd (n x y : Reg) (s : State) : Host.Outcome State Fault Refusal :=
  runCompute (compRAdd n x y s) s

/-- `Rn = Rx - Ry` (R174). -/
def compRSub (n x y : Reg) (s : State) : Effect :=
  fixedSum s n (regFx s x) (~~~regFx s y) true

/-- The same as an instruction of its own. -/
def execRSub (n x y : Reg) (s : State) : Host.Outcome State Fault Refusal :=
  runCompute (compRSub n x y s) s

/-- `Rn = Rx + Ry + CI` (R175). -/
def compRAddCi (n x y : Reg) (s : State) : Effect :=
  fixedSum s n (regFx s x) (regFx s y) (carryIn s)

/-- The same as an instruction of its own. -/
def execRAddCi (n x y : Reg) (s : State) : Host.Outcome State Fault Refusal :=
  runCompute (compRAddCi n x y s) s

/-- `Rn = Rx - Ry + CI - 1` (R176). -/
def compRSubCi (n x y : Reg) (s : State) : Effect :=
  fixedSum s n (regFx s x) (~~~regFx s y) (carryIn s)

/-- The same as an instruction of its own. -/
def execRSubCi (n x y : Reg) (s : State) : Host.Outcome State Fault Refusal :=
  runCompute (compRSubCi n x y s) s

/-- `Rn = (Rx + Ry)/2` (R177). -/
def compRAvg (n x y : Reg) (s : State) : Effect :=
  fixedAverage s n (regFx s x) (regFx s y)

/-- The same as an instruction of its own. -/
def execRAvg (n x y : Reg) (s : State) : Host.Outcome State Fault Refusal :=
  runCompute (compRAvg n x y s) s

/-- `COMP(Rx, Ry)` (R178): AZ and AN are the field's of `Numerics` (G8), CACC follows the operands. -/
def compRComp (x y : Reg) (s : State) : Effect :=
  let a := regFx s x
  let b := regFx s y
  let o := numeric s .rComp (put32 a) (put32 b)
    ⟨orderWord (a == b) (a.slt b), false, false, false, a == b, a.slt b, false⟩
  .flagsOnly (compareOut ⟨o.az, false, o.an, false, false, false, false⟩ (effAstat s) (b.slt a) 0)

/-- The same as an instruction of its own. -/
def execRComp (x y : Reg) (s : State) : Host.Outcome State Fault Refusal :=
  runCompute (compRComp x y s) s

/-- `Rn = Rx + CI` (R179). -/
def compRPlusCi (n x : Reg) (s : State) : Effect :=
  fixedSum s n (regFx s x) 0 (carryIn s)

/-- The same as an instruction of its own. -/
def execRPlusCi (n x : Reg) (s : State) : Host.Outcome State Fault Refusal :=
  runCompute (compRPlusCi n x s) s

/-- `Rn = Rx + CI - 1` (R180). -/
def compRPlusCiLess1 (n x : Reg) (s : State) : Effect :=
  fixedSum s n (regFx s x) 0xFFFFFFFF (carryIn s)

/-- The same as an instruction of its own. -/
def execRPlusCiLess1 (n x : Reg) (s : State) : Host.Outcome State Fault Refusal :=
  runCompute (compRPlusCiLess1 n x s) s

/-- `Rn = Rx + 1` (R181). -/
def compRInc (n x : Reg) (s : State) : Effect :=
  fixedSum s n (regFx s x) 0 true

/-- The same as an instruction of its own. -/
def execRInc (n x : Reg) (s : State) : Host.Outcome State Fault Refusal :=
  runCompute (compRInc n x s) s

/-- `Rn = Rx - 1` (R182). -/
def compRDec (n x : Reg) (s : State) : Effect :=
  fixedSum s n (regFx s x) 0xFFFFFFFF false

/-- The same as an instruction of its own. -/
def execRDec (n x : Reg) (s : State) : Host.Outcome State Fault Refusal :=
  runCompute (compRDec n x s) s

/-- `Rn = -Rx` (R183). -/
def compRNeg (n x : Reg) (s : State) : Effect :=
  fixedSum s n 0 (~~~regFx s x) true

/-- The same as an instruction of its own. -/
def execRNeg (n x : Reg) (s : State) : Host.Outcome State Fault Refusal :=
  runCompute (compRNeg n x s) s

/-- `Rn = ABS Rx` (R184). -/
def compRAbs (n x : Reg) (s : State) : Effect :=
  let a := regFx s x
  let av := a == 0x80000000
  let r := if av && alusat s then 0x7FFFFFFF else magnitude a
  .toReg n (put32 r) (aluOut (fixedFlags r av false (bitOf a 31)) (aluSticky false false av false))

/-- The same as an instruction of its own. -/
def execRAbs (n x : Reg) (s : State) : Host.Outcome State Fault Refusal :=
  runCompute (compRAbs n x s) s

/-- `Rn = PASS Rx` (R185). -/
def compRPass (n x : Reg) (s : State) : Effect :=
  fixedPlain n (regFx s x)

/-- The same as an instruction of its own. -/
def execRPass (n x : Reg) (s : State) : Host.Outcome State Fault Refusal :=
  runCompute (compRPass n x s) s

/-- `Rn = Rx AND Ry` (R186). -/
def compRAnd (n x y : Reg) (s : State) : Effect :=
  fixedPlain n (regFx s x &&& regFx s y)

/-- The same as an instruction of its own. -/
def execRAnd (n x y : Reg) (s : State) : Host.Outcome State Fault Refusal :=
  runCompute (compRAnd n x y s) s

/-- `Rn = Rx OR Ry` (R187). -/
def compROr (n x y : Reg) (s : State) : Effect :=
  fixedPlain n (regFx s x ||| regFx s y)

/-- The same as an instruction of its own. -/
def execROr (n x y : Reg) (s : State) : Host.Outcome State Fault Refusal :=
  runCompute (compROr n x y s) s

/-- `Rn = Rx XOR Ry` (R188). -/
def compRXor (n x y : Reg) (s : State) : Effect :=
  fixedPlain n (regFx s x ^^^ regFx s y)

/-- The same as an instruction of its own. -/
def execRXor (n x y : Reg) (s : State) : Host.Outcome State Fault Refusal :=
  runCompute (compRXor n x y s) s

/-- `Rn = NOT Rx` (R189). -/
def compRNot (n x : Reg) (s : State) : Effect :=
  fixedPlain n (~~~regFx s x)

/-- The same as an instruction of its own. -/
def execRNot (n x : Reg) (s : State) : Host.Outcome State Fault Refusal :=
  runCompute (compRNot n x s) s

/-- `Rn = MIN(Rx, Ry)` (R190). -/
def compRMin (n x y : Reg) (s : State) : Effect :=
  fixedPlain n (if (regFx s x).slt (regFx s y) then regFx s x else regFx s y)

/-- The same as an instruction of its own. -/
def execRMin (n x y : Reg) (s : State) : Host.Outcome State Fault Refusal :=
  runCompute (compRMin n x y s) s

/-- `Rn = MAX(Rx, Ry)` (R191). -/
def compRMax (n x y : Reg) (s : State) : Effect :=
  fixedPlain n (if (regFx s y).slt (regFx s x) then regFx s x else regFx s y)

/-- The same as an instruction of its own. -/
def execRMax (n x y : Reg) (s : State) : Host.Outcome State Fault Refusal :=
  runCompute (compRMax n x y s) s

/-- `Rn = CLIP Rx BY Ry` (R192). -/
def compRClip (n x y : Reg) (s : State) : Effect :=
  fixedPlain n (fx (numeric s .rClip (put32 (regFx s x)) (put32 (regFx s y))
    (.ofInt (clip (regFx s x) (regFx s y)) false false false)).word)

/-- The same as an instruction of its own. -/
def execRClip (n x y : Reg) (s : State) : Host.Outcome State Fault Refusal :=
  runCompute (compRClip n x y s) s

end Sys2Proof.Machine
end

