-- ==== Sys2Proof/Machine/AluFloat.lean ====
section
/-! DEFINITION. The ALU on floating-point operands (41_alu_float.md). -/

namespace Sys2Proof.Machine

/-- A result put in Fn, or as a fixed-point one in Rn, with its flags (R216). -/
def floatOut (n : Reg) (o : FOut) : Effect := .toReg n o.word (aluOut o.flags o.sticky)

/-- A result that is one of the operands or has its sign changed (R226 to R228, R239 to R242): NAN1 if any operand is a
NAN; AV as given. -/
def passOut (s : State) (nan : Bool) (v : W40) (av : Bool) : FOut := if nan then .invalid s else .valued v av false

/-- AS is the sign of the operand, of a NAN as well (R227, R231). -/
def FOut.withSign (o : FOut) (neg : Bool) : FOut := { o with as := neg }

/-- `RND` (R229): to 24 bits whatever RND32 is; the operand's low eight bits are not cleared first. -/
def rndOf (s : State) (v : W40) : FOut :=
  match classify (flushDenormal v) with
  | .nan => .invalid s
  | .inf neg => .exact (fInf neg)
  | .num a => .ofDelivered (deliver (trunc s) 24 a)

/-- `SCALB` (R230): Infinity and Zero pass. An Infinity that passes leaves AV 0: R230 says only that it passes, R214 sets AV
for a post-rounded overflow (DESIGN CHOICE, log entry 35). -/
def scalbOf (s : State) (a : W40) (k : Int) : FOut :=
  match classify a with
  | .nan => .invalid s
  | .inf neg => .exact (fInf neg)
  | .num v => .ofDelivered (deliver (trunc s) (resultBits s) (v.scale k))

/-- A field of `Numerics` with two floating-point operands, `o` being the reference on them as they are read. -/
def numericTwo (s : State) (op : NumericOp) (x y : Reg) (o : W40 → W40 → FOut) : FOut :=
  numeric s op (reg s x) (reg s y) (o (regF s x) (regF s y))

/-- A field of `Numerics` with one floating-point operand. -/
def numericOne (s : State) (op : NumericOp) (x : Reg) (o : W40 → FOut) : FOut :=
  numeric s op (reg s x) 0 (o (regF s x))

/-- The sum, as R220 has it. -/
def fPlus (s : State) (x y : Reg) : FOut := numericTwo s .fAdd x y (fSum s false)

/-- The difference, as R221 has it. -/
def fMinus (s : State) (x y : Reg) : FOut := numericTwo s .fSub x y fun a b => fSum s false a (fNegate b)

/-- A comparison of two floating-point operands; invalid for a NAN (R225). -/
def comparison (a b : W40) : FOut :=
  if isNan a || isNan b then ⟨0, false, false, true, false, false, false⟩
  else
    let less := fLess a b
    let equal := !less && !fLess b a
    ⟨orderWord equal less, false, false, false, equal, less, false⟩

/-- One of two operands, or NAN1 if either is a NAN (R239 to R242). -/
def chosen (s : State) (f : W40 → W40 → W40) (a b : W40) : FOut := passOut s (isNan a || isNan b) (f a b) false

/-- `Fn = Fx + Fy` (R220). -/
def compFAdd (n x y : Reg) (s : State) : Effect :=
  floatOut n (fPlus s x y)

/-- The same as an instruction of its own. -/
def execFAdd (n x y : Reg) (s : State) : Host.Outcome State Fault Refusal :=
  runCompute (compFAdd n x y s) s

/-- `Fn = Fx - Fy` (R221). -/
def compFSub (n x y : Reg) (s : State) : Effect :=
  floatOut n (fMinus s x y)

/-- The same as an instruction of its own. -/
def execFSub (n x y : Reg) (s : State) : Host.Outcome State Fault Refusal :=
  runCompute (compFSub n x y s) s

/-- `Fn = ABS (Fx + Fy)` (R222). -/
def compFAbsAdd (n x y : Reg) (s : State) : Effect :=
  floatOut n (numericTwo s .fAbsAdd x y fun a b => (fSum s false a b).abs)

/-- The same as an instruction of its own. -/
def execFAbsAdd (n x y : Reg) (s : State) : Host.Outcome State Fault Refusal :=
  runCompute (compFAbsAdd n x y s) s

/-- `Fn = ABS (Fx - Fy)` (R223). -/
def compFAbsSub (n x y : Reg) (s : State) : Effect :=
  floatOut n (numericTwo s .fAbsSub x y fun a b => (fSum s false a (fNegate b)).abs)

/-- The same as an instruction of its own. -/
def execFAbsSub (n x y : Reg) (s : State) : Host.Outcome State Fault Refusal :=
  runCompute (compFAbsSub n x y s) s

/-- `Fn = (Fx + Fy)/2` (R224). -/
def compFAvg (n x y : Reg) (s : State) : Effect :=
  floatOut n (numericTwo s .fAvg x y fun a b => (fSum s true a b).noOverflow)

/-- The same as an instruction of its own. -/
def execFAvg (n x y : Reg) (s : State) : Host.Outcome State Fault Refusal :=
  runCompute (compFAvg n x y s) s

/-- `COMP(Fx, Fy)` (R225). -/
def compFComp (x y : Reg) (s : State) : Effect :=
  let o := numericTwo s .fComp x y comparison
  .flagsOnly (compareOut o.flags (effAstat s) (!o.ai && o.word != 0 && !fSign o.word) o.sticky)

/-- The same as an instruction of its own. -/
def execFComp (x y : Reg) (s : State) : Host.Outcome State Fault Refusal :=
  runCompute (compFComp x y s) s

/-- `Fn = -Fx` (R226). -/
def compFNeg (n x : Reg) (s : State) : Effect :=
  floatOut n (numericOne s .fNeg x fun a => passOut s (isNan a) (fNegate a) (isInf a))

/-- The same as an instruction of its own. -/
def execFNeg (n x : Reg) (s : State) : Host.Outcome State Fault Refusal :=
  runCompute (compFNeg n x s) s

/-- `Fn = ABS Fx` (R227). -/
def compFAbs (n x : Reg) (s : State) : Effect :=
  floatOut n (numericOne s .fAbs x fun a =>
    (passOut s (isNan a) (setSign a false) (isInf a)).withSign (fSign (reg s x)))

/-- The same as an instruction of its own. -/
def execFAbs (n x : Reg) (s : State) : Host.Outcome State Fault Refusal :=
  runCompute (compFAbs n x s) s

/-- `Fn = PASS Fx` (R228). -/
def compFPass (n x : Reg) (s : State) : Effect :=
  floatOut n (numericOne s .fPass x fun a => passOut s (isNan a) a false)

/-- The same as an instruction of its own. -/
def execFPass (n x : Reg) (s : State) : Host.Outcome State Fault Refusal :=
  runCompute (compFPass n x s) s

/-- `Fn = RND Fx` (R229). -/
def compFRnd (n x : Reg) (s : State) : Effect :=
  floatOut n (numeric s .fRnd (reg s x) 0 (rndOf s (reg s x)))

/-- The same as an instruction of its own. -/
def execFRnd (n x : Reg) (s : State) : Host.Outcome State Fault Refusal :=
  runCompute (compFRnd n x s) s

/-- `Fn = SCALB Fx BY Ry` (R230). -/
def compFScalb (n x y : Reg) (s : State) : Effect :=
  floatOut n (numeric s .fScalb (reg s x) (put32 (regFx s y)) (scalbOf s (regF s x) (regFx s y).toInt))

/-- The same as an instruction of its own. -/
def execFScalb (n x y : Reg) (s : State) : Host.Outcome State Fault Refusal :=
  runCompute (compFScalb n x y s) s

/-- `Rn = MANT Fx` (R231). -/
def compFMant (n x : Reg) (s : State) : Effect :=
  floatOut n (numericOne s .fMant x fun a => (mantOf a).withSign (fSign (reg s x)))

/-- The same as an instruction of its own. -/
def execFMant (n x : Reg) (s : State) : Host.Outcome State Fault Refusal :=
  runCompute (compFMant n x s) s

/-- `Rn = LOGB Fx` (R232). -/
def compFLogb (n x : Reg) (s : State) : Effect :=
  floatOut n (numericOne s .fLogb x logbOf)

/-- The same as an instruction of its own. -/
def execFLogb (n x : Reg) (s : State) : Host.Outcome State Fault Refusal :=
  runCompute (compFLogb n x s) s

/-- `Rn = FIX Fx BY Ry` (R233). -/
def compFFixBy (n x y : Reg) (s : State) : Effect :=
  floatOut n (numeric s .fFixBy (reg s x) (put32 (regFx s y)) (fixTo s (regF s x) (regFx s y).toInt))

/-- The same as an instruction of its own. -/
def execFFixBy (n x y : Reg) (s : State) : Host.Outcome State Fault Refusal :=
  runCompute (compFFixBy n x y s) s

/-- `Rn = FIX Fx` (R234). -/
def compFFix (n x : Reg) (s : State) : Effect :=
  floatOut n (numericOne s .fFix x fun a => fixTo s a 0)

/-- The same as an instruction of its own. -/
def execFFix (n x : Reg) (s : State) : Host.Outcome State Fault Refusal :=
  runCompute (compFFix n x s) s

/-- `Fn = FLOAT Rx BY Ry` (R235). -/
def compFFloatBy (n x y : Reg) (s : State) : Effect :=
  floatOut n (numeric s .fFloatBy (put32 (regFx s x)) (put32 (regFx s y))
    (floatOf s (regFx s x).toInt (regFx s y).toInt))

/-- The same as an instruction of its own. -/
def execFFloatBy (n x y : Reg) (s : State) : Host.Outcome State Fault Refusal :=
  runCompute (compFFloatBy n x y s) s

/-- `Fn = FLOAT Rx` (R236). -/
def compFFloat (n x : Reg) (s : State) : Effect :=
  floatOut n (numeric s .fFloat (put32 (regFx s x)) 0 (floatOf s (regFx s x).toInt 0))

/-- The same as an instruction of its own. -/
def execFFloat (n x : Reg) (s : State) : Host.Outcome State Fault Refusal :=
  runCompute (compFFloat n x s) s

/-- `Fn = RECIPS Fx` (R237). -/
def compFRecips (n x : Reg) (s : State) : Effect :=
  floatOut n (numericOne s .fRecips x (recipsOf s))

/-- The same as an instruction of its own. -/
def execFRecips (n x : Reg) (s : State) : Host.Outcome State Fault Refusal :=
  runCompute (compFRecips n x s) s

/-- `Fn = RSQRTS Fx` (R238). -/
def compFRsqrts (n x : Reg) (s : State) : Effect :=
  floatOut n (numericOne s .fRsqrts x (rsqrtsOf s))

/-- The same as an instruction of its own. -/
def execFRsqrts (n x : Reg) (s : State) : Host.Outcome State Fault Refusal :=
  runCompute (compFRsqrts n x s) s

/-- `Fn = Fx COPYSIGN Fy` (R239). -/
def compFCopysign (n x y : Reg) (s : State) : Effect :=
  floatOut n (numericTwo s .fCopysign x y (chosen s fun a b => setSign a (fSign b)))

/-- The same as an instruction of its own. -/
def execFCopysign (n x y : Reg) (s : State) : Host.Outcome State Fault Refusal :=
  runCompute (compFCopysign n x y s) s

/-- `Fn = MIN(Fx, Fy)` (R240). -/
def compFMin (n x y : Reg) (s : State) : Effect :=
  floatOut n (numericTwo s .fMin x y (chosen s fun a b => if fLess b a then b else a))

/-- The same as an instruction of its own. -/
def execFMin (n x y : Reg) (s : State) : Host.Outcome State Fault Refusal :=
  runCompute (compFMin n x y s) s

/-- `Fn = MAX(Fx, Fy)` (R241). -/
def compFMax (n x y : Reg) (s : State) : Effect :=
  floatOut n (numericTwo s .fMax x y (chosen s fun a b => if fLess a b then b else a))

/-- The same as an instruction of its own. -/
def execFMax (n x y : Reg) (s : State) : Host.Outcome State Fault Refusal :=
  runCompute (compFMax n x y s) s

/-- `Fn = CLIP Fx BY Fy` (R242). -/
def compFClip (n x y : Reg) (s : State) : Effect :=
  floatOut n (numericTwo s .fClip x y (chosen s fun a b =>
    if fLess (setSign a false) (setSign b false) then a else setSign (setSign b false) (fSign a)))

/-- The same as an instruction of its own. -/
def execFClip (n x y : Reg) (s : State) : Host.Outcome State Fault Refusal :=
  runCompute (compFClip n x y s) s

end Sys2Proof.Machine
end

