-- ==== Sys2Proof/Machine/Multiplier.lean ====
section
/-! DEFINITION. The multiplier: fixed-point products and accumulations, the MR registers, and the floating-point product
(42_multiplier.md). -/

namespace Sys2Proof.Machine

/-- An input as the exact integer its sign letter gives (R262). -/
def mulInput (sg : Sgn) (v : W32) : Int :=
  match sg with
  | .s => v.toInt
  | .u => v.toNat

/-- The product term T (R262): doubled when both inputs are signed and fractional. -/
def mulTerm (md : MulMod) (x y : W32) : W80 :=
  let p := mulInput md.sx x * mulInput md.sy y
  BitVec.ofInt 80 (if md.fmt ≠ .i ∧ md.sx = .s ∧ md.sy = .s then 2 * p else p)

/-- The result is unsigned when both inputs are (R261, D24). -/
def unsignedResult (md : MulMod) : Bool := md.sx == .u && md.sy == .u

/-- `rnd(A)` (R265): to nearest at bit 32, ties to even; the low 32 bits as the sum leaves them (D24). -/
def rndMr (a : W80) : W80 :=
  let b := a + 0x80000000
  if a.extractLsb' 0 32 = 0x80000000 then b &&& ~~~((1 : W80) <<< 32) else b

/-- Rounded if the modifier asks for it (R270). -/
def rounded (md : MulMod) (a : W80) : W80 := if md.fmt = .fr then rndMr a else a

/-- `out32(A, fmt)` (R263): bits 31-0 of an integer result, bits 63-32 of a fractional one. -/
def out32 (int : Bool) (a : W80) : W32 := if int then a.extractLsb' 0 32 else a.extractLsb' 32 32

/-- The bits above `lo` do not all equal 0, nor (for a twos-complement value) all 1. -/
def spills (uns : Bool) (a : W80) (lo : Nat) : Bool :=
  let top := a >>> lo
  top != 0 && (uns || top != (BitVec.allOnes 80) >>> lo)

/-- MV (R264): bits 79-63 or 79-31 of a twos-complement result, 79-64 or 79-32 of an unsigned one. -/
def mrOverflow (uns int : Bool) (a : W80) : Bool :=
  spills uns a (if int then (if uns then 32 else 31) else (if uns then 64 else 63))

/-- MU (R264): a fractional result whose upper 48 bits are insignificant and whose lower 32 are not all 0. -/
def mrUnderflow (uns int : Bool) (a : W80) : Bool :=
  !int && !spills uns a 32 && a.extractLsb' 0 32 != 0

/-- The flags of a fixed-point multiplier result (R264): MOS with MV, MUS with MU. -/
def mrFlags (uns int : Bool) (a : W80) : FlagOut :=
  let mv := mrOverflow uns int a
  let mu := mrUnderflow uns int a
  mulOut (a.getLsbD 79) mv mu false mv false mu false

/-- A fixed-point result sent to Rn (R263, R270). -/
def mulToReg (n : Reg) (md : MulMod) (a : W80) : Effect :=
  .toReg n (put32 (out32 (md.fmt == .i) a)) (mrFlags (unsignedResult md) (md.fmt == .i) a)

/-- A fixed-point result sent to MRF or MRB (R271). -/
def mulToMr (s : State) (back : Bool) (md : MulMod) (a : W80) : Effect :=
  .toMr s back a (mrFlags (unsignedResult md) (md.fmt == .i) a)

/-- `Rx * Ry` rounded as the modifier says (R270). -/
def product (s : State) (x y : Reg) (md : MulMod) : W80 := rounded md (mulTerm md (regFx s x) (regFx s y))

/-- `MRa + Rx * Ry` modulo 2^80, rounded as the modifier says (R272). -/
def accumulated (s : State) (back : Bool) (x y : Reg) (md : MulMod) : W80 :=
  rounded md (mrReg s back + mulTerm md (regFx s x) (regFx s y))

/-- `MRa - Rx * Ry` modulo 2^80, rounded as the modifier says (R274). -/
def decumulated (s : State) (back : Bool) (x y : Reg) (md : MulMod) : W80 :=
  rounded md (mrReg s back - mulTerm md (regFx s x) (regFx s y))

/-- `sat(A, s, fmt)` (R266). -/
def satMr (md : SatMod) (a : W80) : W80 :=
  if mrOverflow (md.sg == .u) (!md.frac) a then
    match md.sg, md.frac with
    | .s, true => if a.getLsbD 79 then 0xFFFF8000000000000000 else 0x00007FFFFFFFFFFFFFFF
    | .s, false => if a.getLsbD 79 then 0xFFFFFFFFFFFF80000000 else 0x0000000000007FFFFFFF
    | .u, true => 0x0000FFFFFFFFFFFFFFFF
    | .u, false => 0x000000000000FFFFFFFF
  else a

/-- A saturated value sent to Rn (R276). -/
def satToReg (n : Reg) (md : SatMod) (a : W80) : Effect :=
  .toReg n (put32 (out32 (!md.frac) (satMr md a))) (mrFlags (md.sg == .u) (!md.frac) (satMr md a))

/-- A saturated value sent to MRF or MRB (R277). -/
def satToMr (s : State) (back : Bool) (md : SatMod) (a : W80) : Effect :=
  .toMr s back (satMr md a) (mrFlags (md.sg == .u) (!md.frac) (satMr md a))

/-- A rounded value sent to Rn (R278). -/
def rndToReg (n : Reg) (sg : Sgn) (a : W80) : Effect :=
  .toReg n (put32 (out32 false (rndMr a))) (mrFlags (sg == .u) false (rndMr a))

/-- A rounded value sent to MRF or MRB (R279). -/
def rndToMr (s : State) (back : Bool) (sg : Sgn) (a : W80) : Effect :=
  .toMr s back (rndMr a) (mrFlags (sg == .u) false (rndMr a))

/-- The flags of a clear and of an MR transfer (R280, R290): MN, MV, MU and MI are 0. -/
def mulClear : FlagOut := mulOut false false false false false false false false

/-- MR0, MR1 and MR2, as the register file receives them: MR2 sign-extended (R29). -/
def mrPart (k : Nat) (a : W80) : W32 :=
  if k = 0 then a.extractLsb' 0 32 else if k = 1 then a.extractLsb' 32 32 else (a.extractLsb' 64 16).signExtend 32

/-- An MR register with part 0, 1 or 2 replaced; writing MR1 sign-extends into MR2 (R30). -/
def mrWithPart (k : Nat) (a : W80) (v : W32) : W80 :=
  if k = 0 then a.extractLsb' 32 48 ++ v
  else if k = 1 then v.signExtend 48 ++ a.extractLsb' 0 32
  else v.setWidth 16 ++ a.extractLsb' 0 64

/-- `Rn = MRk` (R290). -/
def readMr (s : State) (n : Reg) (back : Bool) (k : Nat) : Effect :=
  .toReg n (put32 (mrPart k (mrReg s back))) mulClear

/-- `MRk = Rn` (R291). -/
def writeMr (s : State) (n : Reg) (back : Bool) (k : Nat) : Effect :=
  .toMr s back (mrWithPart k (mrReg s back) (regFx s n)) mulClear

/-- The floating-point product put in Fn, with the multiplier's flags (R292). -/
def fMulOut (n : Reg) (o : FOut) : Effect :=
  .toReg n o.word (mulOut o.an o.av o.unf o.ai false o.av o.unf o.ai)

/-- `Rn = Rx * Ry (mod)` (R270). -/
def compMulR (n x y : Reg) (md : MulMod) (s : State) : Effect :=
  mulToReg n md (product s x y md)

/-- The same as an instruction of its own. -/
def execMulR (n x y : Reg) (md : MulMod) (s : State) : Host.Outcome State Fault Refusal :=
  runCompute (compMulR n x y md s) s

/-- `MRF = Rx * Ry (mod)` (R271). -/
def compMulMrf (x y : Reg) (md : MulMod) (s : State) : Effect :=
  mulToMr s false md (product s x y md)

/-- The same as an instruction of its own. -/
def execMulMrf (x y : Reg) (md : MulMod) (s : State) : Host.Outcome State Fault Refusal :=
  runCompute (compMulMrf x y md s) s

/-- `MRB = Rx * Ry (mod)` (R271). -/
def compMulMrb (x y : Reg) (md : MulMod) (s : State) : Effect :=
  mulToMr s true md (product s x y md)

/-- The same as an instruction of its own. -/
def execMulMrb (x y : Reg) (md : MulMod) (s : State) : Host.Outcome State Fault Refusal :=
  runCompute (compMulMrb x y md s) s

/-- `Rn = MRF + Rx * Ry (mod)` (R272). -/
def compMacAddRMrf (n x y : Reg) (md : MulMod) (s : State) : Effect :=
  mulToReg n md (accumulated s false x y md)

/-- The same as an instruction of its own. -/
def execMacAddRMrf (n x y : Reg) (md : MulMod) (s : State) : Host.Outcome State Fault Refusal :=
  runCompute (compMacAddRMrf n x y md s) s

/-- `Rn = MRB + Rx * Ry (mod)` (R272). -/
def compMacAddRMrb (n x y : Reg) (md : MulMod) (s : State) : Effect :=
  mulToReg n md (accumulated s true x y md)

/-- The same as an instruction of its own. -/
def execMacAddRMrb (n x y : Reg) (md : MulMod) (s : State) : Host.Outcome State Fault Refusal :=
  runCompute (compMacAddRMrb n x y md s) s

/-- `MRF = MRF + Rx * Ry (mod)` (R273). -/
def compMacAddMrf (x y : Reg) (md : MulMod) (s : State) : Effect :=
  mulToMr s false md (accumulated s false x y md)

/-- The same as an instruction of its own. -/
def execMacAddMrf (x y : Reg) (md : MulMod) (s : State) : Host.Outcome State Fault Refusal :=
  runCompute (compMacAddMrf x y md s) s

/-- `MRB = MRB + Rx * Ry (mod)` (R273). -/
def compMacAddMrb (x y : Reg) (md : MulMod) (s : State) : Effect :=
  mulToMr s true md (accumulated s true x y md)

/-- The same as an instruction of its own. -/
def execMacAddMrb (x y : Reg) (md : MulMod) (s : State) : Host.Outcome State Fault Refusal :=
  runCompute (compMacAddMrb x y md s) s

/-- `Rn = MRF - Rx * Ry (mod)` (R274). -/
def compMacSubRMrf (n x y : Reg) (md : MulMod) (s : State) : Effect :=
  mulToReg n md (decumulated s false x y md)

/-- The same as an instruction of its own. -/
def execMacSubRMrf (n x y : Reg) (md : MulMod) (s : State) : Host.Outcome State Fault Refusal :=
  runCompute (compMacSubRMrf n x y md s) s

/-- `Rn = MRB - Rx * Ry (mod)` (R274). -/
def compMacSubRMrb (n x y : Reg) (md : MulMod) (s : State) : Effect :=
  mulToReg n md (decumulated s true x y md)

/-- The same as an instruction of its own. -/
def execMacSubRMrb (n x y : Reg) (md : MulMod) (s : State) : Host.Outcome State Fault Refusal :=
  runCompute (compMacSubRMrb n x y md s) s

/-- `MRF = MRF - Rx * Ry (mod)` (R275). -/
def compMacSubMrf (x y : Reg) (md : MulMod) (s : State) : Effect :=
  mulToMr s false md (decumulated s false x y md)

/-- The same as an instruction of its own. -/
def execMacSubMrf (x y : Reg) (md : MulMod) (s : State) : Host.Outcome State Fault Refusal :=
  runCompute (compMacSubMrf x y md s) s

/-- `MRB = MRB - Rx * Ry (mod)` (R275). -/
def compMacSubMrb (x y : Reg) (md : MulMod) (s : State) : Effect :=
  mulToMr s true md (decumulated s true x y md)

/-- The same as an instruction of its own. -/
def execMacSubMrb (x y : Reg) (md : MulMod) (s : State) : Host.Outcome State Fault Refusal :=
  runCompute (compMacSubMrb x y md s) s

/-- `Rn = SAT MRF (s fmt)` (R276). -/
def compSatRMrf (n : Reg) (md : SatMod) (s : State) : Effect :=
  satToReg n md (mrReg s false)

/-- The same as an instruction of its own. -/
def execSatRMrf (n : Reg) (md : SatMod) (s : State) : Host.Outcome State Fault Refusal :=
  runCompute (compSatRMrf n md s) s

/-- `Rn = SAT MRB (s fmt)` (R276). -/
def compSatRMrb (n : Reg) (md : SatMod) (s : State) : Effect :=
  satToReg n md (mrReg s true)

/-- The same as an instruction of its own. -/
def execSatRMrb (n : Reg) (md : SatMod) (s : State) : Host.Outcome State Fault Refusal :=
  runCompute (compSatRMrb n md s) s

/-- `MRF = SAT MRF (s fmt)` (R277). -/
def compSatMrf (md : SatMod) (s : State) : Effect :=
  satToMr s false md (mrReg s false)

/-- The same as an instruction of its own. -/
def execSatMrf (md : SatMod) (s : State) : Host.Outcome State Fault Refusal :=
  runCompute (compSatMrf md s) s

/-- `MRB = SAT MRB (s fmt)` (R277). -/
def compSatMrb (md : SatMod) (s : State) : Effect :=
  satToMr s true md (mrReg s true)

/-- The same as an instruction of its own. -/
def execSatMrb (md : SatMod) (s : State) : Host.Outcome State Fault Refusal :=
  runCompute (compSatMrb md s) s

/-- `Rn = RND MRF (s F)` (R278). -/
def compRndRMrf (n : Reg) (sg : Sgn) (s : State) : Effect :=
  rndToReg n sg (mrReg s false)

/-- The same as an instruction of its own. -/
def execRndRMrf (n : Reg) (sg : Sgn) (s : State) : Host.Outcome State Fault Refusal :=
  runCompute (compRndRMrf n sg s) s

/-- `Rn = RND MRB (s F)` (R278). -/
def compRndRMrb (n : Reg) (sg : Sgn) (s : State) : Effect :=
  rndToReg n sg (mrReg s true)

/-- The same as an instruction of its own. -/
def execRndRMrb (n : Reg) (sg : Sgn) (s : State) : Host.Outcome State Fault Refusal :=
  runCompute (compRndRMrb n sg s) s

/-- `MRF = RND MRF (s F)` (R279). -/
def compRndMrf (sg : Sgn) (s : State) : Effect :=
  rndToMr s false sg (mrReg s false)

/-- The same as an instruction of its own. -/
def execRndMrf (sg : Sgn) (s : State) : Host.Outcome State Fault Refusal :=
  runCompute (compRndMrf sg s) s

/-- `MRB = RND MRB (s F)` (R279). -/
def compRndMrb (sg : Sgn) (s : State) : Effect :=
  rndToMr s true sg (mrReg s true)

/-- The same as an instruction of its own. -/
def execRndMrb (sg : Sgn) (s : State) : Host.Outcome State Fault Refusal :=
  runCompute (compRndMrb sg s) s

/-- `MRF = 0` (R280). -/
def compClrMrf (s : State) : Effect :=
  .toMr s false 0 mulClear

/-- The same as an instruction of its own. -/
def execClrMrf (s : State) : Host.Outcome State Fault Refusal :=
  runCompute (compClrMrf s) s

/-- `MRB = 0` (R280). -/
def compClrMrb (s : State) : Effect :=
  .toMr s true 0 mulClear

/-- The same as an instruction of its own. -/
def execClrMrb (s : State) : Host.Outcome State Fault Refusal :=
  runCompute (compClrMrb s) s

/-- `Rn = MR0F` (R290). -/
def compRdMr0f (n : Reg) (s : State) : Effect :=
  readMr s n false 0

/-- The same as an instruction of its own. -/
def execRdMr0f (n : Reg) (s : State) : Host.Outcome State Fault Refusal :=
  runCompute (compRdMr0f n s) s

/-- `Rn = MR1F` (R290). -/
def compRdMr1f (n : Reg) (s : State) : Effect :=
  readMr s n false 1

/-- The same as an instruction of its own. -/
def execRdMr1f (n : Reg) (s : State) : Host.Outcome State Fault Refusal :=
  runCompute (compRdMr1f n s) s

/-- `Rn = MR2F` (R290). -/
def compRdMr2f (n : Reg) (s : State) : Effect :=
  readMr s n false 2

/-- The same as an instruction of its own. -/
def execRdMr2f (n : Reg) (s : State) : Host.Outcome State Fault Refusal :=
  runCompute (compRdMr2f n s) s

/-- `Rn = MR0B` (R290). -/
def compRdMr0b (n : Reg) (s : State) : Effect :=
  readMr s n true 0

/-- The same as an instruction of its own. -/
def execRdMr0b (n : Reg) (s : State) : Host.Outcome State Fault Refusal :=
  runCompute (compRdMr0b n s) s

/-- `Rn = MR1B` (R290). -/
def compRdMr1b (n : Reg) (s : State) : Effect :=
  readMr s n true 1

/-- The same as an instruction of its own. -/
def execRdMr1b (n : Reg) (s : State) : Host.Outcome State Fault Refusal :=
  runCompute (compRdMr1b n s) s

/-- `Rn = MR2B` (R290). -/
def compRdMr2b (n : Reg) (s : State) : Effect :=
  readMr s n true 2

/-- The same as an instruction of its own. -/
def execRdMr2b (n : Reg) (s : State) : Host.Outcome State Fault Refusal :=
  runCompute (compRdMr2b n s) s

/-- `MR0F = Rn` (R291). -/
def compWrMr0f (n : Reg) (s : State) : Effect :=
  writeMr s n false 0

/-- The same as an instruction of its own. -/
def execWrMr0f (n : Reg) (s : State) : Host.Outcome State Fault Refusal :=
  runCompute (compWrMr0f n s) s

/-- `MR1F = Rn` (R291). -/
def compWrMr1f (n : Reg) (s : State) : Effect :=
  writeMr s n false 1

/-- The same as an instruction of its own. -/
def execWrMr1f (n : Reg) (s : State) : Host.Outcome State Fault Refusal :=
  runCompute (compWrMr1f n s) s

/-- `MR2F = Rn` (R291). -/
def compWrMr2f (n : Reg) (s : State) : Effect :=
  writeMr s n false 2

/-- The same as an instruction of its own. -/
def execWrMr2f (n : Reg) (s : State) : Host.Outcome State Fault Refusal :=
  runCompute (compWrMr2f n s) s

/-- `MR0B = Rn` (R291). -/
def compWrMr0b (n : Reg) (s : State) : Effect :=
  writeMr s n true 0

/-- The same as an instruction of its own. -/
def execWrMr0b (n : Reg) (s : State) : Host.Outcome State Fault Refusal :=
  runCompute (compWrMr0b n s) s

/-- `MR1B = Rn` (R291). -/
def compWrMr1b (n : Reg) (s : State) : Effect :=
  writeMr s n true 1

/-- The same as an instruction of its own. -/
def execWrMr1b (n : Reg) (s : State) : Host.Outcome State Fault Refusal :=
  runCompute (compWrMr1b n s) s

/-- `MR2B = Rn` (R291). -/
def compWrMr2b (n : Reg) (s : State) : Effect :=
  writeMr s n true 2

/-- The same as an instruction of its own. -/
def execWrMr2b (n : Reg) (s : State) : Host.Outcome State Fault Refusal :=
  runCompute (compWrMr2b n s) s

/-- `Fn = Fx * Fy` (R292). -/
def compFMul (n x y : Reg) (s : State) : Effect :=
  fMulOut n (numeric s .fMul (reg s x) (reg s y) (fProduct s (regF s x) (regF s y)))

/-- The same as an instruction of its own. -/
def execFMul (n x y : Reg) (s : State) : Host.Outcome State Fault Refusal :=
  runCompute (compFMul n x y s) s

end Sys2Proof.Machine
end

