-- ==== Sys2Proof/Machine/Multifunction.lean ====
section
/-! DEFINITION. Multifunction computations (44_multifunction.md). The multiplier part stands below the ALU part, which wins a
register both write (R378). -/

namespace Sys2Proof.Machine

/-- The multiplier X-inputs of a multifunction instruction: R0-R3 (R373). -/
def quadXm (k : Quad) : Reg := ⟨k.val, by omega⟩

/-- The multiplier Y-inputs: R4-R7. -/
def quadYm (k : Quad) : Reg := ⟨k.val + 4, by omega⟩

/-- The ALU X-inputs: R8-R11. -/
def quadXa (k : Quad) : Reg := ⟨k.val + 8, by omega⟩

/-- The ALU Y-inputs: R12-R15. -/
def quadYa (k : Quad) : Reg := ⟨k.val + 12, by omega⟩

/-- The modifier (SSFR) (R374). -/
def ssfr : MulMod := ⟨.s, .s, .fr⟩

/-- The modifier (SSF) (R374). -/
def ssf : MulMod := ⟨.s, .s, .f⟩

/-- The fixed-point dual add/subtract (R371): the flags of the two operations are ORed. -/
def dualFixed (s : State) (a d : Reg) (x y : W32) : Res Effect :=
  if a = d then refused .sameDualDestination
  else
    let p := add32 (alusat s) x y false
    let q := add32 (alusat s) x (~~~y) true
    .ok ⟨[(a, put32 p.word), (d, put32 q.word)], .none,
      aluOut ((fixedFlags p.word p.av p.ac false).or (fixedFlags q.word q.av q.ac false))
        (aluSticky false false (p.av || q.av) false)⟩

/-- The floating-point dual add/subtract (R372). -/
def dualFloat (s : State) (a d x y : Reg) : Res Effect :=
  if a = d then refused .sameDualDestination
  else
    let p := fPlus s x y
    let q := fMinus s x y
    .ok ⟨[(a, p.word), (d, q.word)], .none, aluOut (p.flags.or q.flags) (p.sticky ||| q.sticky)⟩

/-- `Ra = Rx + Ry , Rs = Rx - Ry` (R371). -/
def compDualAddSub (a d x y : Reg) (s : State) : Res Effect :=
  dualFixed s a d (regFx s x) (regFx s y)

/-- The same as an instruction of its own. -/
def execDualAddSub (a d x y : Reg) (s : State) : Host.Outcome State Fault Refusal :=
  tryCompute (compDualAddSub a d x y s) s

/-- `Fa = Fx + Fy , Fs = Fx - Fy` (R372). -/
def compDualFAddSub (a d x y : Reg) (s : State) : Res Effect :=
  dualFloat s a d x y

/-- The same as an instruction of its own. -/
def execDualFAddSub (a d x y : Reg) (s : State) : Host.Outcome State Fault Refusal :=
  tryCompute (compDualFAddSub a d x y s) s

/-- `Rm = R3-0 * R7-4 (SSFR) , Ra = R11-8 + R15-12` (R374). -/
def compMulRWithAdd (m a : Reg) (xm ym xa ya : Quad) (s : State) : Effect :=
  (compMulR m (quadXm xm) (quadYm ym) ssfr s).beside (compRAdd a (quadXa xa) (quadYa ya) s)

/-- The same as an instruction of its own. -/
def execMulRWithAdd (m a : Reg) (xm ym xa ya : Quad) (s : State) : Host.Outcome State Fault Refusal :=
  runCompute (compMulRWithAdd m a xm ym xa ya s) s

/-- `Rm = R3-0 * R7-4 (SSFR) , Ra = R11-8 - R15-12` (R374). -/
def compMulRWithSub (m a : Reg) (xm ym xa ya : Quad) (s : State) : Effect :=
  (compMulR m (quadXm xm) (quadYm ym) ssfr s).beside (compRSub a (quadXa xa) (quadYa ya) s)

/-- The same as an instruction of its own. -/
def execMulRWithSub (m a : Reg) (xm ym xa ya : Quad) (s : State) : Host.Outcome State Fault Refusal :=
  runCompute (compMulRWithSub m a xm ym xa ya s) s

/-- `Rm = R3-0 * R7-4 (SSFR) , Ra = (R11-8 + R15-12)/2` (R374). -/
def compMulRWithAvg (m a : Reg) (xm ym xa ya : Quad) (s : State) : Effect :=
  (compMulR m (quadXm xm) (quadYm ym) ssfr s).beside (compRAvg a (quadXa xa) (quadYa ya) s)

/-- The same as an instruction of its own. -/
def execMulRWithAvg (m a : Reg) (xm ym xa ya : Quad) (s : State) : Host.Outcome State Fault Refusal :=
  runCompute (compMulRWithAvg m a xm ym xa ya s) s

/-- `MRF = MRF + R3-0 * R7-4 (SSF) , Ra = R11-8 + R15-12` (R374). -/
def compMacAddMrfWithAdd (a : Reg) (xm ym xa ya : Quad) (s : State) : Effect :=
  (compMacAddMrf (quadXm xm) (quadYm ym) ssf s).beside (compRAdd a (quadXa xa) (quadYa ya) s)

/-- The same as an instruction of its own. -/
def execMacAddMrfWithAdd (a : Reg) (xm ym xa ya : Quad) (s : State) : Host.Outcome State Fault Refusal :=
  runCompute (compMacAddMrfWithAdd a xm ym xa ya s) s

/-- `MRF = MRF + R3-0 * R7-4 (SSF) , Ra = R11-8 - R15-12` (R374). -/
def compMacAddMrfWithSub (a : Reg) (xm ym xa ya : Quad) (s : State) : Effect :=
  (compMacAddMrf (quadXm xm) (quadYm ym) ssf s).beside (compRSub a (quadXa xa) (quadYa ya) s)

/-- The same as an instruction of its own. -/
def execMacAddMrfWithSub (a : Reg) (xm ym xa ya : Quad) (s : State) : Host.Outcome State Fault Refusal :=
  runCompute (compMacAddMrfWithSub a xm ym xa ya s) s

/-- `MRF = MRF + R3-0 * R7-4 (SSF) , Ra = (R11-8 + R15-12)/2` (R374). -/
def compMacAddMrfWithAvg (a : Reg) (xm ym xa ya : Quad) (s : State) : Effect :=
  (compMacAddMrf (quadXm xm) (quadYm ym) ssf s).beside (compRAvg a (quadXa xa) (quadYa ya) s)

/-- The same as an instruction of its own. -/
def execMacAddMrfWithAvg (a : Reg) (xm ym xa ya : Quad) (s : State) : Host.Outcome State Fault Refusal :=
  runCompute (compMacAddMrfWithAvg a xm ym xa ya s) s

/-- `Rm = MRF + R3-0 * R7-4 (SSFR) , Ra = R11-8 + R15-12` (R374). -/
def compMacAddRMrfWithAdd (m a : Reg) (xm ym xa ya : Quad) (s : State) : Effect :=
  (compMacAddRMrf m (quadXm xm) (quadYm ym) ssfr s).beside (compRAdd a (quadXa xa) (quadYa ya) s)

/-- The same as an instruction of its own. -/
def execMacAddRMrfWithAdd (m a : Reg) (xm ym xa ya : Quad) (s : State) : Host.Outcome State Fault Refusal :=
  runCompute (compMacAddRMrfWithAdd m a xm ym xa ya s) s

/-- `Rm = MRF + R3-0 * R7-4 (SSFR) , Ra = R11-8 - R15-12` (R374). -/
def compMacAddRMrfWithSub (m a : Reg) (xm ym xa ya : Quad) (s : State) : Effect :=
  (compMacAddRMrf m (quadXm xm) (quadYm ym) ssfr s).beside (compRSub a (quadXa xa) (quadYa ya) s)

/-- The same as an instruction of its own. -/
def execMacAddRMrfWithSub (m a : Reg) (xm ym xa ya : Quad) (s : State) : Host.Outcome State Fault Refusal :=
  runCompute (compMacAddRMrfWithSub m a xm ym xa ya s) s

/-- `Rm = MRF + R3-0 * R7-4 (SSFR) , Ra = (R11-8 + R15-12)/2` (R374). -/
def compMacAddRMrfWithAvg (m a : Reg) (xm ym xa ya : Quad) (s : State) : Effect :=
  (compMacAddRMrf m (quadXm xm) (quadYm ym) ssfr s).beside (compRAvg a (quadXa xa) (quadYa ya) s)

/-- The same as an instruction of its own. -/
def execMacAddRMrfWithAvg (m a : Reg) (xm ym xa ya : Quad) (s : State) : Host.Outcome State Fault Refusal :=
  runCompute (compMacAddRMrfWithAvg m a xm ym xa ya s) s

/-- `MRF = MRF - R3-0 * R7-4 (SSF) , Ra = R11-8 + R15-12` (R374). -/
def compMacSubMrfWithAdd (a : Reg) (xm ym xa ya : Quad) (s : State) : Effect :=
  (compMacSubMrf (quadXm xm) (quadYm ym) ssf s).beside (compRAdd a (quadXa xa) (quadYa ya) s)

/-- The same as an instruction of its own. -/
def execMacSubMrfWithAdd (a : Reg) (xm ym xa ya : Quad) (s : State) : Host.Outcome State Fault Refusal :=
  runCompute (compMacSubMrfWithAdd a xm ym xa ya s) s

/-- `MRF = MRF - R3-0 * R7-4 (SSF) , Ra = R11-8 - R15-12` (R374). -/
def compMacSubMrfWithSub (a : Reg) (xm ym xa ya : Quad) (s : State) : Effect :=
  (compMacSubMrf (quadXm xm) (quadYm ym) ssf s).beside (compRSub a (quadXa xa) (quadYa ya) s)

/-- The same as an instruction of its own. -/
def execMacSubMrfWithSub (a : Reg) (xm ym xa ya : Quad) (s : State) : Host.Outcome State Fault Refusal :=
  runCompute (compMacSubMrfWithSub a xm ym xa ya s) s

/-- `MRF = MRF - R3-0 * R7-4 (SSF) , Ra = (R11-8 + R15-12)/2` (R374). -/
def compMacSubMrfWithAvg (a : Reg) (xm ym xa ya : Quad) (s : State) : Effect :=
  (compMacSubMrf (quadXm xm) (quadYm ym) ssf s).beside (compRAvg a (quadXa xa) (quadYa ya) s)

/-- The same as an instruction of its own. -/
def execMacSubMrfWithAvg (a : Reg) (xm ym xa ya : Quad) (s : State) : Host.Outcome State Fault Refusal :=
  runCompute (compMacSubMrfWithAvg a xm ym xa ya s) s

/-- `Rm = MRF - R3-0 * R7-4 (SSFR) , Ra = R11-8 + R15-12` (R374). -/
def compMacSubRMrfWithAdd (m a : Reg) (xm ym xa ya : Quad) (s : State) : Effect :=
  (compMacSubRMrf m (quadXm xm) (quadYm ym) ssfr s).beside (compRAdd a (quadXa xa) (quadYa ya) s)

/-- The same as an instruction of its own. -/
def execMacSubRMrfWithAdd (m a : Reg) (xm ym xa ya : Quad) (s : State) : Host.Outcome State Fault Refusal :=
  runCompute (compMacSubRMrfWithAdd m a xm ym xa ya s) s

/-- `Rm = MRF - R3-0 * R7-4 (SSFR) , Ra = R11-8 - R15-12` (R374). -/
def compMacSubRMrfWithSub (m a : Reg) (xm ym xa ya : Quad) (s : State) : Effect :=
  (compMacSubRMrf m (quadXm xm) (quadYm ym) ssfr s).beside (compRSub a (quadXa xa) (quadYa ya) s)

/-- The same as an instruction of its own. -/
def execMacSubRMrfWithSub (m a : Reg) (xm ym xa ya : Quad) (s : State) : Host.Outcome State Fault Refusal :=
  runCompute (compMacSubRMrfWithSub m a xm ym xa ya s) s

/-- `Rm = MRF - R3-0 * R7-4 (SSFR) , Ra = (R11-8 + R15-12)/2` (R374). -/
def compMacSubRMrfWithAvg (m a : Reg) (xm ym xa ya : Quad) (s : State) : Effect :=
  (compMacSubRMrf m (quadXm xm) (quadYm ym) ssfr s).beside (compRAvg a (quadXa xa) (quadYa ya) s)

/-- The same as an instruction of its own. -/
def execMacSubRMrfWithAvg (m a : Reg) (xm ym xa ya : Quad) (s : State) : Host.Outcome State Fault Refusal :=
  runCompute (compMacSubRMrfWithAvg m a xm ym xa ya s) s

/-- `Fm = F3-0 * F7-4 , Fa = F11-8 + F15-12` (R375). -/
def compFMulWithFAdd (m a : Reg) (xm ym xa ya : Quad) (s : State) : Effect :=
  (compFMul m (quadXm xm) (quadYm ym) s).beside (compFAdd a (quadXa xa) (quadYa ya) s)

/-- The same as an instruction of its own. -/
def execFMulWithFAdd (m a : Reg) (xm ym xa ya : Quad) (s : State) : Host.Outcome State Fault Refusal :=
  runCompute (compFMulWithFAdd m a xm ym xa ya s) s

/-- `Fm = F3-0 * F7-4 , Fa = F11-8 - F15-12` (R375). -/
def compFMulWithFSub (m a : Reg) (xm ym xa ya : Quad) (s : State) : Effect :=
  (compFMul m (quadXm xm) (quadYm ym) s).beside (compFSub a (quadXa xa) (quadYa ya) s)

/-- The same as an instruction of its own. -/
def execFMulWithFSub (m a : Reg) (xm ym xa ya : Quad) (s : State) : Host.Outcome State Fault Refusal :=
  runCompute (compFMulWithFSub m a xm ym xa ya s) s

/-- `Fm = F3-0 * F7-4 , Fa = FLOAT R11-8 BY R15-12` (R375). -/
def compFMulWithFloatBy (m a : Reg) (xm ym xa ya : Quad) (s : State) : Effect :=
  (compFMul m (quadXm xm) (quadYm ym) s).beside (compFFloatBy a (quadXa xa) (quadYa ya) s)

/-- The same as an instruction of its own. -/
def execFMulWithFloatBy (m a : Reg) (xm ym xa ya : Quad) (s : State) : Host.Outcome State Fault Refusal :=
  runCompute (compFMulWithFloatBy m a xm ym xa ya s) s

/-- `Fm = F3-0 * F7-4 , Ra = FIX F11-8 BY R15-12` (R375). -/
def compFMulWithFixBy (m a : Reg) (xm ym xa ya : Quad) (s : State) : Effect :=
  (compFMul m (quadXm xm) (quadYm ym) s).beside (compFFixBy a (quadXa xa) (quadYa ya) s)

/-- The same as an instruction of its own. -/
def execFMulWithFixBy (m a : Reg) (xm ym xa ya : Quad) (s : State) : Host.Outcome State Fault Refusal :=
  runCompute (compFMulWithFixBy m a xm ym xa ya s) s

/-- `Fm = F3-0 * F7-4 , Fa = (F11-8 + F15-12)/2` (R375). -/
def compFMulWithFAvg (m a : Reg) (xm ym xa ya : Quad) (s : State) : Effect :=
  (compFMul m (quadXm xm) (quadYm ym) s).beside (compFAvg a (quadXa xa) (quadYa ya) s)

/-- The same as an instruction of its own. -/
def execFMulWithFAvg (m a : Reg) (xm ym xa ya : Quad) (s : State) : Host.Outcome State Fault Refusal :=
  runCompute (compFMulWithFAvg m a xm ym xa ya s) s

/-- `Fm = F3-0 * F7-4 , Fa = ABS F11-8` (R375). -/
def compFMulWithFAbs (m a : Reg) (xm ym xa : Quad) (s : State) : Effect :=
  (compFMul m (quadXm xm) (quadYm ym) s).beside (compFAbs a (quadXa xa) s)

/-- The same as an instruction of its own. -/
def execFMulWithFAbs (m a : Reg) (xm ym xa : Quad) (s : State) : Host.Outcome State Fault Refusal :=
  runCompute (compFMulWithFAbs m a xm ym xa s) s

/-- `Fm = F3-0 * F7-4 , Fa = MAX (F11-8, F15-12)` (R375). -/
def compFMulWithFMax (m a : Reg) (xm ym xa ya : Quad) (s : State) : Effect :=
  (compFMul m (quadXm xm) (quadYm ym) s).beside (compFMax a (quadXa xa) (quadYa ya) s)

/-- The same as an instruction of its own. -/
def execFMulWithFMax (m a : Reg) (xm ym xa ya : Quad) (s : State) : Host.Outcome State Fault Refusal :=
  runCompute (compFMulWithFMax m a xm ym xa ya s) s

/-- `Fm = F3-0 * F7-4 , Fa = MIN (F11-8, F15-12)` (R375). -/
def compFMulWithFMin (m a : Reg) (xm ym xa ya : Quad) (s : State) : Effect :=
  (compFMul m (quadXm xm) (quadYm ym) s).beside (compFMin a (quadXa xa) (quadYa ya) s)

/-- The same as an instruction of its own. -/
def execFMulWithFMin (m a : Reg) (xm ym xa ya : Quad) (s : State) : Host.Outcome State Fault Refusal :=
  runCompute (compFMulWithFMin m a xm ym xa ya s) s

/-- `Rm = R3-0 * R7-4 (SSFR) , Ra = R11-8 + R15-12 , Rs = R11-8 - R15-12` (R376). -/
def compMulRWithDual (m a d : Reg) (xm ym xa ya : Quad) (s : State) : Res Effect :=
  (dualFixed s a d (regFx s (quadXa xa)) (regFx s (quadYa ya))).map
    (compMulR m (quadXm xm) (quadYm ym) ssfr s).beside

/-- The same as an instruction of its own. -/
def execMulRWithDual (m a d : Reg) (xm ym xa ya : Quad) (s : State) : Host.Outcome State Fault Refusal :=
  tryCompute (compMulRWithDual m a d xm ym xa ya s) s

/-- `Fm = F3-0 * F7-4 , Fa = F11-8 + F15-12 , Fs = F11-8 - F15-12` (R376). -/
def compFMulWithDual (m a d : Reg) (xm ym xa ya : Quad) (s : State) : Res Effect :=
  (dualFloat s a d (quadXa xa) (quadYa ya)).map
    (compFMul m (quadXm xm) (quadYm ym) s).beside

/-- The same as an instruction of its own. -/
def execFMulWithDual (m a d : Reg) (xm ym xa ya : Quad) (s : State) : Host.Outcome State Fault Refusal :=
  tryCompute (compFMulWithDual m a d xm ym xa ya s) s

end Sys2Proof.Machine
end

