-- ==== Sys2Proof/Machine/Shifter.lean ====
section
/-! DEFINITION. The shifter (43_shifter.md). -/

namespace Sys2Proof.Machine

/-- A shifter result: the 32-bit word and SV. -/
structure ShiftOut where
  word : W32
  sv : Bool
deriving DecidableEq, Repr

/-- A shift amount brought into -64 to 64: beyond 32 places every amount does the same (R313, R315). -/
def clampShift (k : Int) : Int := max (-64) (min 64 k)

/-- `LSHIFT x BY k` (R313): SV when a 1 leaves to the left. -/
def lshiftOf (x : W32) (k : Int) : ShiftOut :=
  let d := clampShift k
  if 0 ≤ d then ⟨BitVec.ofNat 32 (x.toNat * 2 ^ d.toNat), decide (2 ^ 32 ≤ x.toNat * 2 ^ d.toNat)⟩
  else ⟨BitVec.ofNat 32 (x.toNat / 2 ^ (-d).toNat), false⟩

/-- `ASHIFT x BY k` (R315): SV when a bit that differs from the result's sign leaves to the left. -/
def ashiftOf (x : W32) (k : Int) : ShiftOut :=
  let d := clampShift k
  let w : Int := if 0 ≤ d then x.toInt * 2 ^ d.toNat else x.toInt / 2 ^ (-d).toNat
  ⟨BitVec.ofInt 32 w, decide (w < -2 ^ 31 ∨ 2 ^ 31 - 1 < w)⟩

/-- `ROT x BY k` (R317): left by k modulo 32. -/
def rotOf (x : W32) (k : Int) : ShiftOut := ⟨x.rotateLeft (k % 32).toNat, false⟩

/-- The bit position names a bit of the field (R318). -/
def inField (b : Int) : Bool := decide (0 ≤ b ∧ b < 32)

/-- A bit operation `f` on bit `b`; outside the field nothing changes and SV is set (R318 to R320). -/
def bitOpOf (x : W32) (b : Int) (f : W32 → W32 → W32) : ShiftOut :=
  if inField b then ⟨f x (bitMask b.toNat), false⟩ else ⟨x, true⟩

/-- Clear the masked bits. -/
def clearBits (x m : W32) : W32 := x &&& ~~~m

/-- Set the masked bits. -/
def setBits (x m : W32) : W32 := x ||| m

/-- Invert the masked bits. -/
def toggleBits (x m : W32) : W32 := x ^^^ m

/-- The flags of BTST (R321): SZ when the bit is 0 or outside the field. -/
def testBit (x : W32) (b : Int) : FlagOut :=
  if inField b then shiftOut (!bitOf x b.toNat) false false else shiftOut true true false

/-- `FDEP` (R322): `len` low bits of x at position `bit`; SV when the field passes bit 31 (D32). -/
def fdepOf (x : W32) (bit len : Nat) : ShiftOut :=
  ⟨BitVec.ofNat 32 (x.toNat % 2 ^ len * 2 ^ bit), decide (32 < bit + len)⟩

/-- `FDEP (SE)` (R324): copies of the field's top bit to its left. -/
def fdepSeOf (x : W32) (bit len : Nat) : ShiftOut :=
  let field : Int := x.toNat % 2 ^ len
  let v : Int := if 0 < len ∧ x.toNat.testBit (len - 1) then field - 2 ^ len else field
  ⟨BitVec.ofInt 32 (v * 2 ^ bit), decide (32 < bit + len)⟩

/-- `FEXT` (R326): `len` bits of x from position `bit`. -/
def fextOf (x : W32) (bit len : Nat) : ShiftOut :=
  ⟨BitVec.ofNat 32 (x.toNat / 2 ^ bit % 2 ^ len), decide (32 < bit + len)⟩

/-- `FEXT (SE)` (R327): sign-extended from the field's top bit, read as 0 above bit 31. -/
def fextSeOf (x : W32) (bit len : Nat) : ShiftOut :=
  let field : Int := x.toNat / 2 ^ bit % 2 ^ len
  let v : Int := if 0 < len ∧ x.toNat.testBit (bit + len - 1) then field - 2 ^ len else field
  ⟨BitVec.ofInt 32 v, decide (32 < bit + len)⟩

/-- The number of leading 0 bits (R330). -/
def leadingZeros (x : W32) : Nat := if x = 0 then 32 else 31 - x.toNat.log2

/-- `EXP x` (R328): minus the number of redundant sign bits. -/
def expOf (x : W32) : W32 :=
  let k := if bitOf x 31 then leadingZeros (~~~x) else leadingZeros x
  BitVec.ofInt 32 (1 - (k : Int))

/-- `bit6` of a register Y-input: bits 5-0 of the field (R311). -/
def bit6Of (y : W32) : Nat := (y.extractLsb' 0 6).toNat

/-- `len6` of a register Y-input: bits 11-6 of the field (R311). -/
def len6Of (y : W32) : Nat := (y.extractLsb' 6 6).toNat

/-- A shifter result put in Rn (R310, R312): SZ of the word written, SS 0. -/
def shiftToReg (n : Reg) (o : ShiftOut) : Effect := .toReg n (put32 o.word) (shiftOut (o.word == 0) o.sv false)

/-- The OR forms (R314): the result is ORed into the old Rn. -/
def orShiftToReg (s : State) (n : Reg) (o : ShiftOut) : Effect :=
  shiftToReg n ⟨regFx s n ||| o.word, o.sv⟩

/-- An exponent result (R328): SS is the operand's sign. -/
def expToReg (n : Reg) (r : W32) (ss : Bool) : Effect := .toReg n (put32 r) (shiftOut (r == 0) false ss)

/-- A leading-bit count (R330): SV when it is 32. -/
def countToReg (n : Reg) (k : Nat) : Effect := shiftToReg n ⟨BitVec.ofNat 32 k, k == 32⟩

/-- `Rn = LSHIFT Rx BY Ry` (R313). -/
def compLshift (n x y : Reg) (s : State) : Effect :=
  shiftToReg n (lshiftOf (regFx s x) (regFx s y).toInt)

/-- The same as an instruction of its own. -/
def execLshift (n x y : Reg) (s : State) : Host.Outcome State Fault Refusal :=
  runCompute (compLshift n x y s) s

/-- `Rn = LSHIFT Rx BY <data8>` (R313). -/
def compLshiftImm (n x : Reg) (d : BitVec 8) (s : State) : Effect :=
  shiftToReg n (lshiftOf (regFx s x) d.toInt)

/-- The same as an instruction of its own. -/
def execLshiftImm (n x : Reg) (d : BitVec 8) (s : State) : Host.Outcome State Fault Refusal :=
  runCompute (compLshiftImm n x d s) s

/-- `Rn = Rn OR LSHIFT Rx BY Ry` (R314). -/
def compOrLshift (n x y : Reg) (s : State) : Effect :=
  orShiftToReg s n (lshiftOf (regFx s x) (regFx s y).toInt)

/-- The same as an instruction of its own. -/
def execOrLshift (n x y : Reg) (s : State) : Host.Outcome State Fault Refusal :=
  runCompute (compOrLshift n x y s) s

/-- `Rn = Rn OR LSHIFT Rx BY <data8>` (R314). -/
def compOrLshiftImm (n x : Reg) (d : BitVec 8) (s : State) : Effect :=
  orShiftToReg s n (lshiftOf (regFx s x) d.toInt)

/-- The same as an instruction of its own. -/
def execOrLshiftImm (n x : Reg) (d : BitVec 8) (s : State) : Host.Outcome State Fault Refusal :=
  runCompute (compOrLshiftImm n x d s) s

/-- `Rn = ASHIFT Rx BY Ry` (R315). -/
def compAshift (n x y : Reg) (s : State) : Effect :=
  shiftToReg n (ashiftOf (regFx s x) (regFx s y).toInt)

/-- The same as an instruction of its own. -/
def execAshift (n x y : Reg) (s : State) : Host.Outcome State Fault Refusal :=
  runCompute (compAshift n x y s) s

/-- `Rn = ASHIFT Rx BY <data8>` (R315). -/
def compAshiftImm (n x : Reg) (d : BitVec 8) (s : State) : Effect :=
  shiftToReg n (ashiftOf (regFx s x) d.toInt)

/-- The same as an instruction of its own. -/
def execAshiftImm (n x : Reg) (d : BitVec 8) (s : State) : Host.Outcome State Fault Refusal :=
  runCompute (compAshiftImm n x d s) s

/-- `Rn = Rn OR ASHIFT Rx BY Ry` (R316). -/
def compOrAshift (n x y : Reg) (s : State) : Effect :=
  orShiftToReg s n (ashiftOf (regFx s x) (regFx s y).toInt)

/-- The same as an instruction of its own. -/
def execOrAshift (n x y : Reg) (s : State) : Host.Outcome State Fault Refusal :=
  runCompute (compOrAshift n x y s) s

/-- `Rn = Rn OR ASHIFT Rx BY <data8>` (R316). -/
def compOrAshiftImm (n x : Reg) (d : BitVec 8) (s : State) : Effect :=
  orShiftToReg s n (ashiftOf (regFx s x) d.toInt)

/-- The same as an instruction of its own. -/
def execOrAshiftImm (n x : Reg) (d : BitVec 8) (s : State) : Host.Outcome State Fault Refusal :=
  runCompute (compOrAshiftImm n x d s) s

/-- `Rn = ROT Rx BY Ry` (R317). -/
def compRot (n x y : Reg) (s : State) : Effect :=
  shiftToReg n (rotOf (regFx s x) (regFx s y).toInt)

/-- The same as an instruction of its own. -/
def execRot (n x y : Reg) (s : State) : Host.Outcome State Fault Refusal :=
  runCompute (compRot n x y s) s

/-- `Rn = ROT Rx BY <data8>` (R317). -/
def compRotImm (n x : Reg) (d : BitVec 8) (s : State) : Effect :=
  shiftToReg n (rotOf (regFx s x) d.toInt)

/-- The same as an instruction of its own. -/
def execRotImm (n x : Reg) (d : BitVec 8) (s : State) : Host.Outcome State Fault Refusal :=
  runCompute (compRotImm n x d s) s

/-- `Rn = BCLR Rx BY Ry` (R318). -/
def compBclr (n x y : Reg) (s : State) : Effect :=
  shiftToReg n (bitOpOf (regFx s x) (regFx s y).toInt clearBits)

/-- The same as an instruction of its own. -/
def execBclr (n x y : Reg) (s : State) : Host.Outcome State Fault Refusal :=
  runCompute (compBclr n x y s) s

/-- `Rn = BCLR Rx BY <data8>` (R318). -/
def compBclrImm (n x : Reg) (d : BitVec 8) (s : State) : Effect :=
  shiftToReg n (bitOpOf (regFx s x) d.toInt clearBits)

/-- The same as an instruction of its own. -/
def execBclrImm (n x : Reg) (d : BitVec 8) (s : State) : Host.Outcome State Fault Refusal :=
  runCompute (compBclrImm n x d s) s

/-- `Rn = BSET Rx BY Ry` (R319). -/
def compBset (n x y : Reg) (s : State) : Effect :=
  shiftToReg n (bitOpOf (regFx s x) (regFx s y).toInt setBits)

/-- The same as an instruction of its own. -/
def execBset (n x y : Reg) (s : State) : Host.Outcome State Fault Refusal :=
  runCompute (compBset n x y s) s

/-- `Rn = BSET Rx BY <data8>` (R319). -/
def compBsetImm (n x : Reg) (d : BitVec 8) (s : State) : Effect :=
  shiftToReg n (bitOpOf (regFx s x) d.toInt setBits)

/-- The same as an instruction of its own. -/
def execBsetImm (n x : Reg) (d : BitVec 8) (s : State) : Host.Outcome State Fault Refusal :=
  runCompute (compBsetImm n x d s) s

/-- `Rn = BTGL Rx BY Ry` (R320). -/
def compBtgl (n x y : Reg) (s : State) : Effect :=
  shiftToReg n (bitOpOf (regFx s x) (regFx s y).toInt toggleBits)

/-- The same as an instruction of its own. -/
def execBtgl (n x y : Reg) (s : State) : Host.Outcome State Fault Refusal :=
  runCompute (compBtgl n x y s) s

/-- `Rn = BTGL Rx BY <data8>` (R320). -/
def compBtglImm (n x : Reg) (d : BitVec 8) (s : State) : Effect :=
  shiftToReg n (bitOpOf (regFx s x) d.toInt toggleBits)

/-- The same as an instruction of its own. -/
def execBtglImm (n x : Reg) (d : BitVec 8) (s : State) : Host.Outcome State Fault Refusal :=
  runCompute (compBtglImm n x d s) s

/-- `BTST Rx BY Ry` (R321). -/
def compBtst (x y : Reg) (s : State) : Effect :=
  .flagsOnly (testBit (regFx s x) (regFx s y).toInt)

/-- The same as an instruction of its own. -/
def execBtst (x y : Reg) (s : State) : Host.Outcome State Fault Refusal :=
  runCompute (compBtst x y s) s

/-- `BTST Rx BY <data8>` (R321). -/
def compBtstImm (x : Reg) (d : BitVec 8) (s : State) : Effect :=
  .flagsOnly (testBit (regFx s x) d.toInt)

/-- The same as an instruction of its own. -/
def execBtstImm (x : Reg) (d : BitVec 8) (s : State) : Host.Outcome State Fault Refusal :=
  runCompute (compBtstImm x d s) s

/-- `Rn = FDEP Rx BY Ry` (R322). -/
def compFdep (n x y : Reg) (s : State) : Effect :=
  shiftToReg n (fdepOf (regFx s x) (bit6Of (regFx s y)) (len6Of (regFx s y)))

/-- The same as an instruction of its own. -/
def execFdep (n x y : Reg) (s : State) : Host.Outcome State Fault Refusal :=
  runCompute (compFdep n x y s) s

/-- `Rn = FDEP Rx BY <bit6>:<len6>` (R322). -/
def compFdepImm (n x : Reg) (bit len : BitVec 6) (s : State) : Effect :=
  shiftToReg n (fdepOf (regFx s x) bit.toNat len.toNat)

/-- The same as an instruction of its own. -/
def execFdepImm (n x : Reg) (bit len : BitVec 6) (s : State) : Host.Outcome State Fault Refusal :=
  runCompute (compFdepImm n x bit len s) s

/-- `Rn = Rn OR FDEP Rx BY Ry` (R323). -/
def compOrFdep (n x y : Reg) (s : State) : Effect :=
  orShiftToReg s n (fdepOf (regFx s x) (bit6Of (regFx s y)) (len6Of (regFx s y)))

/-- The same as an instruction of its own. -/
def execOrFdep (n x y : Reg) (s : State) : Host.Outcome State Fault Refusal :=
  runCompute (compOrFdep n x y s) s

/-- `Rn = Rn OR FDEP Rx BY <bit6>:<len6>` (R323). -/
def compOrFdepImm (n x : Reg) (bit len : BitVec 6) (s : State) : Effect :=
  orShiftToReg s n (fdepOf (regFx s x) bit.toNat len.toNat)

/-- The same as an instruction of its own. -/
def execOrFdepImm (n x : Reg) (bit len : BitVec 6) (s : State) : Host.Outcome State Fault Refusal :=
  runCompute (compOrFdepImm n x bit len s) s

/-- `Rn = FDEP Rx BY Ry (SE)` (R324). -/
def compFdepSe (n x y : Reg) (s : State) : Effect :=
  shiftToReg n (fdepSeOf (regFx s x) (bit6Of (regFx s y)) (len6Of (regFx s y)))

/-- The same as an instruction of its own. -/
def execFdepSe (n x y : Reg) (s : State) : Host.Outcome State Fault Refusal :=
  runCompute (compFdepSe n x y s) s

/-- `Rn = FDEP Rx BY <bit6>:<len6> (SE)` (R324). -/
def compFdepSeImm (n x : Reg) (bit len : BitVec 6) (s : State) : Effect :=
  shiftToReg n (fdepSeOf (regFx s x) bit.toNat len.toNat)

/-- The same as an instruction of its own. -/
def execFdepSeImm (n x : Reg) (bit len : BitVec 6) (s : State) : Host.Outcome State Fault Refusal :=
  runCompute (compFdepSeImm n x bit len s) s

/-- `Rn = Rn OR FDEP Rx BY Ry (SE)` (R325). -/
def compOrFdepSe (n x y : Reg) (s : State) : Effect :=
  orShiftToReg s n (fdepSeOf (regFx s x) (bit6Of (regFx s y)) (len6Of (regFx s y)))

/-- The same as an instruction of its own. -/
def execOrFdepSe (n x y : Reg) (s : State) : Host.Outcome State Fault Refusal :=
  runCompute (compOrFdepSe n x y s) s

/-- `Rn = Rn OR FDEP Rx BY <bit6>:<len6> (SE)` (R325). -/
def compOrFdepSeImm (n x : Reg) (bit len : BitVec 6) (s : State) : Effect :=
  orShiftToReg s n (fdepSeOf (regFx s x) bit.toNat len.toNat)

/-- The same as an instruction of its own. -/
def execOrFdepSeImm (n x : Reg) (bit len : BitVec 6) (s : State) : Host.Outcome State Fault Refusal :=
  runCompute (compOrFdepSeImm n x bit len s) s

/-- `Rn = FEXT Rx BY Ry` (R326). -/
def compFext (n x y : Reg) (s : State) : Effect :=
  shiftToReg n (fextOf (regFx s x) (bit6Of (regFx s y)) (len6Of (regFx s y)))

/-- The same as an instruction of its own. -/
def execFext (n x y : Reg) (s : State) : Host.Outcome State Fault Refusal :=
  runCompute (compFext n x y s) s

/-- `Rn = FEXT Rx BY <bit6>:<len6>` (R326). -/
def compFextImm (n x : Reg) (bit len : BitVec 6) (s : State) : Effect :=
  shiftToReg n (fextOf (regFx s x) bit.toNat len.toNat)

/-- The same as an instruction of its own. -/
def execFextImm (n x : Reg) (bit len : BitVec 6) (s : State) : Host.Outcome State Fault Refusal :=
  runCompute (compFextImm n x bit len s) s

/-- `Rn = FEXT Rx BY Ry (SE)` (R327). -/
def compFextSe (n x y : Reg) (s : State) : Effect :=
  shiftToReg n (fextSeOf (regFx s x) (bit6Of (regFx s y)) (len6Of (regFx s y)))

/-- The same as an instruction of its own. -/
def execFextSe (n x y : Reg) (s : State) : Host.Outcome State Fault Refusal :=
  runCompute (compFextSe n x y s) s

/-- `Rn = FEXT Rx BY <bit6>:<len6> (SE)` (R327). -/
def compFextSeImm (n x : Reg) (bit len : BitVec 6) (s : State) : Effect :=
  shiftToReg n (fextSeOf (regFx s x) bit.toNat len.toNat)

/-- The same as an instruction of its own. -/
def execFextSeImm (n x : Reg) (bit len : BitVec 6) (s : State) : Host.Outcome State Fault Refusal :=
  runCompute (compFextSeImm n x bit len s) s

/-- `Rn = EXP Rx` (R328). -/
def compExpo (n x : Reg) (s : State) : Effect :=
  expToReg n (expOf (regFx s x)) (bitOf (regFx s x) 31)

/-- The same as an instruction of its own. -/
def execExpo (n x : Reg) (s : State) : Host.Outcome State Fault Refusal :=
  runCompute (compExpo n x s) s

/-- `Rn = EXP Rx (EX)` (R329). -/
def compExpoEx (n x : Reg) (s : State) : Effect :=
  expToReg n (if bitOf (effAstat s) 1 then 1 else expOf (regFx s x)) (bitOf (regFx s x) 31)

/-- The same as an instruction of its own. -/
def execExpoEx (n x : Reg) (s : State) : Host.Outcome State Fault Refusal :=
  runCompute (compExpoEx n x s) s

/-- `Rn = LEFTZ Rx` (R330). -/
def compLeftz (n x : Reg) (s : State) : Effect :=
  countToReg n (leadingZeros (regFx s x))

/-- The same as an instruction of its own. -/
def execLeftz (n x : Reg) (s : State) : Host.Outcome State Fault Refusal :=
  runCompute (compLeftz n x s) s

/-- `Rn = LEFTO Rx` (R331). -/
def compLefto (n x : Reg) (s : State) : Effect :=
  countToReg n (leadingZeros (~~~regFx s x))

/-- The same as an instruction of its own. -/
def execLefto (n x : Reg) (s : State) : Host.Outcome State Fault Refusal :=
  runCompute (compLefto n x s) s

/-- `Rn = FPACK Fx` (R332). -/
def compFpack (n x : Reg) (s : State) : Effect :=
  let o := numeric s .fpack (reg s x) 0 (packOf (regFx s x))
  .toReg n o.word (shiftOut false o.av false)

/-- The same as an instruction of its own. -/
def execFpack (n x : Reg) (s : State) : Host.Outcome State Fault Refusal :=
  runCompute (compFpack n x s) s

/-- `Fn = FUNPACK Rx` (R333). -/
def compFunpack (n x : Reg) (s : State) : Effect :=
  .toReg n (numeric s .funpack (put32 (regFx s x)) 0 (.exact (unpackShort (regFx s x)))).word
    (shiftOut false false false)

/-- The same as an instruction of its own. -/
def execFunpack (n x : Reg) (s : State) : Host.Outcome State Fault Refusal :=
  runCompute (compFunpack n x s) s

end Sys2Proof.Machine
end

