-- ==== Sys2Proof/Machine/Compute.lean ====
section
/-! DEFINITION. The compute slot: every operation by its own definition, read from the state at the start of the
instruction. -/

namespace Sys2Proof.Machine

/-- What a computation in a compute slot does. -/
def computeEffect (c : Compute) (s : State) : Res Effect :=
  match c with
  | .rAdd n x y => .ok (compRAdd n x y s)
  | .rSub n x y => .ok (compRSub n x y s)
  | .rAddCi n x y => .ok (compRAddCi n x y s)
  | .rSubCi n x y => .ok (compRSubCi n x y s)
  | .rAvg n x y => .ok (compRAvg n x y s)
  | .rComp x y => .ok (compRComp x y s)
  | .rPlusCi n x => .ok (compRPlusCi n x s)
  | .rPlusCiLess1 n x => .ok (compRPlusCiLess1 n x s)
  | .rInc n x => .ok (compRInc n x s)
  | .rDec n x => .ok (compRDec n x s)
  | .rNeg n x => .ok (compRNeg n x s)
  | .rAbs n x => .ok (compRAbs n x s)
  | .rPass n x => .ok (compRPass n x s)
  | .rAnd n x y => .ok (compRAnd n x y s)
  | .rOr n x y => .ok (compROr n x y s)
  | .rXor n x y => .ok (compRXor n x y s)
  | .rNot n x => .ok (compRNot n x s)
  | .rMin n x y => .ok (compRMin n x y s)
  | .rMax n x y => .ok (compRMax n x y s)
  | .rClip n x y => .ok (compRClip n x y s)
  | .fAdd n x y => .ok (compFAdd n x y s)
  | .fSub n x y => .ok (compFSub n x y s)
  | .fAbsAdd n x y => .ok (compFAbsAdd n x y s)
  | .fAbsSub n x y => .ok (compFAbsSub n x y s)
  | .fAvg n x y => .ok (compFAvg n x y s)
  | .fComp x y => .ok (compFComp x y s)
  | .fNeg n x => .ok (compFNeg n x s)
  | .fAbs n x => .ok (compFAbs n x s)
  | .fPass n x => .ok (compFPass n x s)
  | .fRnd n x => .ok (compFRnd n x s)
  | .fScalb n x y => .ok (compFScalb n x y s)
  | .fMant n x => .ok (compFMant n x s)
  | .fLogb n x => .ok (compFLogb n x s)
  | .fFixBy n x y => .ok (compFFixBy n x y s)
  | .fFix n x => .ok (compFFix n x s)
  | .fFloatBy n x y => .ok (compFFloatBy n x y s)
  | .fFloat n x => .ok (compFFloat n x s)
  | .fRecips n x => .ok (compFRecips n x s)
  | .fRsqrts n x => .ok (compFRsqrts n x s)
  | .fCopysign n x y => .ok (compFCopysign n x y s)
  | .fMin n x y => .ok (compFMin n x y s)
  | .fMax n x y => .ok (compFMax n x y s)
  | .fClip n x y => .ok (compFClip n x y s)
  | .mulR n x y md => .ok (compMulR n x y md s)
  | .mulMrf x y md => .ok (compMulMrf x y md s)
  | .mulMrb x y md => .ok (compMulMrb x y md s)
  | .macAddRMrf n x y md => .ok (compMacAddRMrf n x y md s)
  | .macAddRMrb n x y md => .ok (compMacAddRMrb n x y md s)
  | .macAddMrf x y md => .ok (compMacAddMrf x y md s)
  | .macAddMrb x y md => .ok (compMacAddMrb x y md s)
  | .macSubRMrf n x y md => .ok (compMacSubRMrf n x y md s)
  | .macSubRMrb n x y md => .ok (compMacSubRMrb n x y md s)
  | .macSubMrf x y md => .ok (compMacSubMrf x y md s)
  | .macSubMrb x y md => .ok (compMacSubMrb x y md s)
  | .satRMrf n md => .ok (compSatRMrf n md s)
  | .satRMrb n md => .ok (compSatRMrb n md s)
  | .satMrf md => .ok (compSatMrf md s)
  | .satMrb md => .ok (compSatMrb md s)
  | .rndRMrf n sg => .ok (compRndRMrf n sg s)
  | .rndRMrb n sg => .ok (compRndRMrb n sg s)
  | .rndMrf sg => .ok (compRndMrf sg s)
  | .rndMrb sg => .ok (compRndMrb sg s)
  | .clrMrf => .ok (compClrMrf s)
  | .clrMrb => .ok (compClrMrb s)
  | .rdMr0f n => .ok (compRdMr0f n s)
  | .rdMr1f n => .ok (compRdMr1f n s)
  | .rdMr2f n => .ok (compRdMr2f n s)
  | .rdMr0b n => .ok (compRdMr0b n s)
  | .rdMr1b n => .ok (compRdMr1b n s)
  | .rdMr2b n => .ok (compRdMr2b n s)
  | .wrMr0f n => .ok (compWrMr0f n s)
  | .wrMr1f n => .ok (compWrMr1f n s)
  | .wrMr2f n => .ok (compWrMr2f n s)
  | .wrMr0b n => .ok (compWrMr0b n s)
  | .wrMr1b n => .ok (compWrMr1b n s)
  | .wrMr2b n => .ok (compWrMr2b n s)
  | .fMul n x y => .ok (compFMul n x y s)
  | .lshift n x y => .ok (compLshift n x y s)
  | .lshiftImm n x d => .ok (compLshiftImm n x d s)
  | .orLshift n x y => .ok (compOrLshift n x y s)
  | .orLshiftImm n x d => .ok (compOrLshiftImm n x d s)
  | .ashift n x y => .ok (compAshift n x y s)
  | .ashiftImm n x d => .ok (compAshiftImm n x d s)
  | .orAshift n x y => .ok (compOrAshift n x y s)
  | .orAshiftImm n x d => .ok (compOrAshiftImm n x d s)
  | .rot n x y => .ok (compRot n x y s)
  | .rotImm n x d => .ok (compRotImm n x d s)
  | .bclr n x y => .ok (compBclr n x y s)
  | .bclrImm n x d => .ok (compBclrImm n x d s)
  | .bset n x y => .ok (compBset n x y s)
  | .bsetImm n x d => .ok (compBsetImm n x d s)
  | .btgl n x y => .ok (compBtgl n x y s)
  | .btglImm n x d => .ok (compBtglImm n x d s)
  | .btst x y => .ok (compBtst x y s)
  | .btstImm x d => .ok (compBtstImm x d s)
  | .fdep n x y => .ok (compFdep n x y s)
  | .fdepImm n x bit len => .ok (compFdepImm n x bit len s)
  | .orFdep n x y => .ok (compOrFdep n x y s)
  | .orFdepImm n x bit len => .ok (compOrFdepImm n x bit len s)
  | .fdepSe n x y => .ok (compFdepSe n x y s)
  | .fdepSeImm n x bit len => .ok (compFdepSeImm n x bit len s)
  | .orFdepSe n x y => .ok (compOrFdepSe n x y s)
  | .orFdepSeImm n x bit len => .ok (compOrFdepSeImm n x bit len s)
  | .fext n x y => .ok (compFext n x y s)
  | .fextImm n x bit len => .ok (compFextImm n x bit len s)
  | .fextSe n x y => .ok (compFextSe n x y s)
  | .fextSeImm n x bit len => .ok (compFextSeImm n x bit len s)
  | .expo n x => .ok (compExpo n x s)
  | .expoEx n x => .ok (compExpoEx n x s)
  | .leftz n x => .ok (compLeftz n x s)
  | .lefto n x => .ok (compLefto n x s)
  | .fpack n x => .ok (compFpack n x s)
  | .funpack n x => .ok (compFunpack n x s)
  | .dualAddSub a d x y => compDualAddSub a d x y s
  | .dualFAddSub a d x y => compDualFAddSub a d x y s
  | .mulRWithAdd m a xm ym xa ya => .ok (compMulRWithAdd m a xm ym xa ya s)
  | .mulRWithSub m a xm ym xa ya => .ok (compMulRWithSub m a xm ym xa ya s)
  | .mulRWithAvg m a xm ym xa ya => .ok (compMulRWithAvg m a xm ym xa ya s)
  | .macAddMrfWithAdd a xm ym xa ya => .ok (compMacAddMrfWithAdd a xm ym xa ya s)
  | .macAddMrfWithSub a xm ym xa ya => .ok (compMacAddMrfWithSub a xm ym xa ya s)
  | .macAddMrfWithAvg a xm ym xa ya => .ok (compMacAddMrfWithAvg a xm ym xa ya s)
  | .macAddRMrfWithAdd m a xm ym xa ya => .ok (compMacAddRMrfWithAdd m a xm ym xa ya s)
  | .macAddRMrfWithSub m a xm ym xa ya => .ok (compMacAddRMrfWithSub m a xm ym xa ya s)
  | .macAddRMrfWithAvg m a xm ym xa ya => .ok (compMacAddRMrfWithAvg m a xm ym xa ya s)
  | .macSubMrfWithAdd a xm ym xa ya => .ok (compMacSubMrfWithAdd a xm ym xa ya s)
  | .macSubMrfWithSub a xm ym xa ya => .ok (compMacSubMrfWithSub a xm ym xa ya s)
  | .macSubMrfWithAvg a xm ym xa ya => .ok (compMacSubMrfWithAvg a xm ym xa ya s)
  | .macSubRMrfWithAdd m a xm ym xa ya => .ok (compMacSubRMrfWithAdd m a xm ym xa ya s)
  | .macSubRMrfWithSub m a xm ym xa ya => .ok (compMacSubRMrfWithSub m a xm ym xa ya s)
  | .macSubRMrfWithAvg m a xm ym xa ya => .ok (compMacSubRMrfWithAvg m a xm ym xa ya s)
  | .fMulWithFAdd m a xm ym xa ya => .ok (compFMulWithFAdd m a xm ym xa ya s)
  | .fMulWithFSub m a xm ym xa ya => .ok (compFMulWithFSub m a xm ym xa ya s)
  | .fMulWithFloatBy m a xm ym xa ya => .ok (compFMulWithFloatBy m a xm ym xa ya s)
  | .fMulWithFixBy m a xm ym xa ya => .ok (compFMulWithFixBy m a xm ym xa ya s)
  | .fMulWithFAvg m a xm ym xa ya => .ok (compFMulWithFAvg m a xm ym xa ya s)
  | .fMulWithFAbs m a xm ym xa => .ok (compFMulWithFAbs m a xm ym xa s)
  | .fMulWithFMax m a xm ym xa ya => .ok (compFMulWithFMax m a xm ym xa ya s)
  | .fMulWithFMin m a xm ym xa ya => .ok (compFMulWithFMin m a xm ym xa ya s)
  | .mulRWithDual m a d xm ym xa ya => compMulRWithDual m a d xm ym xa ya s
  | .fMulWithDual m a d xm ym xa ya => compFMulWithDual m a d xm ym xa ya s

/-- What the compute slot of an instruction does; an empty slot nothing. -/
def slotEffect (c : Option Compute) (s : State) : Res Effect :=
  match c with
  | none => .ok Effect.none
  | some c => computeEffect c s

end Sys2Proof.Machine
end

