-- ==== Sys2Proof/Machine/Flow.lean ====
section
/-! DEFINITION. Branches, returns and loops (46_program_flow.md R430 to R451). -/

namespace Sys2Proof.Machine

/-- `JUMP <addr24>` (R431). -/
def execJumpAbs (cond : Cond) (addr : A24) (db : Bool) (c : Option Compute) (s : State) :
    Host.Outcome State Fault Refusal :=
  branch cond db false (slotEffect c s) s fun t => jumpTo s t (targetOf s (.abs addr)) db

/-- `JUMP (PC, <reladdr>)` (R432). -/
def execJumpRel (cond : Cond) (off : A24) (db : Bool) (c : Option Compute) (s : State) :
    Host.Outcome State Fault Refusal :=
  branch cond db false (slotEffect c s) s fun t => jumpTo s t (targetOf s (.rel off)) db

/-- `JUMP (Md, Ic)` (R433). -/
def execJumpInd (cond : Cond) (m i : Fin 8) (db : Bool) (c : Option Compute) (s : State) :
    Host.Outcome State Fault Refusal :=
  branch cond db false (slotEffect c s) s fun t => jumpTo s t (targetOf s (.ind m i)) db

/-- `CALL <addr24>` (R434). -/
def execCallAbs (cond : Cond) (addr : A24) (db : Bool) (c : Option Compute) (s : State) :
    Host.Outcome State Fault Refusal :=
  branch cond db true (slotEffect c s) s fun t => callTo s t (targetOf s (.abs addr)) db

/-- `CALL (PC, <reladdr>)` (R434). -/
def execCallRel (cond : Cond) (off : A24) (db : Bool) (c : Option Compute) (s : State) :
    Host.Outcome State Fault Refusal :=
  branch cond db true (slotEffect c s) s fun t => callTo s t (targetOf s (.rel off)) db

/-- `CALL (Md, Ic)` (R434). -/
def execCallInd (cond : Cond) (m i : Fin 8) (db : Bool) (c : Option Compute) (s : State) :
    Host.Outcome State Fault Refusal :=
  branch cond db true (slotEffect c s) s fun t => callTo s t (targetOf s (.ind m i)) db

/-- `RTS` (R435); not where RTS (LR) is called for: to the last two instructions of an active counter-based loop (R437),
or from a CALL at a loop's end (R449). -/
def execRts (cond : Cond) (db : Bool) (c : Option Compute) (s : State) : Host.Outcome State Fault Refusal :=
  branch cond db false (slotEffect c s) s fun t =>
    (demand (!needsLr s) .plainReturnIntoLoop).bind fun _ => returnTo s t db

/-- `RTS (LR)` (R437): the test at e - 2 is not repeated, so it acts as RTS. -/
def execRtsLr (cond : Cond) (db : Bool) (c : Option Compute) (s : State) : Host.Outcome State Fault Refusal :=
  branch cond db false (slotEffect c s) s fun t => returnTo s t db

/-- `RTI` (R436, R517); not there either (U33). -/
def execRti (cond : Cond) (db : Bool) (c : Option Compute) (s : State) : Host.Outcome State Fault Refusal :=
  branch cond db false (slotEffect c s) s fun t =>
    (demand (!needsLr s) .plainReturnIntoLoop).bind fun _ => returnInterrupt s t db

/-- `JUMP ... (LA)`, with or without (CI) (R438, R439). -/
def execJumpLa (cond : Cond) (target : Target) (db ci : Bool) (c : Option Compute) (s : State) :
    Host.Outcome State Fault Refusal :=
  branch cond db false (slotEffect c s) s fun t =>
    (abortLoop s t (targetOf s target)).map fun t =>
      goTo s (if ci then clearCurrent s t else t) (targetOf s target) db

/-- `JUMP ... (CI)` without (LA) (R439, D27). -/
def execJumpCi (cond : Cond) (target : Target) (db : Bool) (c : Option Compute) (s : State) :
    Host.Outcome State Fault Refusal :=
  branch cond db false (slotEffect c s) s fun t => jumpTo s (clearCurrent s t) (targetOf s target) db

/-- `DO <addr24> UNTIL term` (R441). -/
def execDoAbs (addr : A24) (term : Cond) (s : State) : Host.Outcome State Fault Refusal :=
  always s fun t => startLoop s t addr term

/-- `DO (PC, <reladdr>) UNTIL term` (R441). -/
def execDoRel (off : A24) (term : Cond) (s : State) : Host.Outcome State Fault Refusal :=
  always s fun t => startLoop s t (s.pc + off) term

/-- `LCNTR = <data>, DO <addr24> UNTIL term` (R442, R146): LCNTR is written, then the loop starts. -/
def execDoCountImm (v : W32) (d : DoUntil) (s : State) : Host.Outcome State Fault Refusal :=
  always s fun t => startLoop s (putLcntr s t v) d.addr d.term

/-- `LCNTR = ureg, DO <addr24> UNTIL term` (R442, R146). -/
def execDoCountUreg (src : Ureg) (d : DoUntil) (s : State) : Host.Outcome State Fault Refusal :=
  always s fun t => (takeUreg s src).bind fun v => startLoop s (putLcntr s t (low32 v)) d.addr d.term

end Sys2Proof.Machine
end

