-- ==== Sys2Proof/Machine/Moves.lean ====
section
/-! DEFINITION. Data moves (45_data_move.md). Each move reads its operands in the state before the instruction, lets the
sequencer and the computation beside it act, then writes its destination, so that the destination wins a register the
computation also writes (R25) and ASTAT and STKY end with the moved value (R51), and post-modifies its index last
(R397). -/

namespace Sys2Proof.Machine

/-- The computation beside a move carried out on the sequenced state (R397). -/
def withSlot (c : Option Compute) (s t : State) : Res State := (slotEffect c s).map (applyEffect s t)

/-- A register is moved as the 40-bit DM data bus carries it (R402, R404). -/
def onDmBus (v : W48) : W48 := bus40 (low40 v)

/-- A load and a post-modify of one index register: refused (R393, D16, U25). -/
def indexClash (clash : Bool) : Res Unit := demand (!clash) .doubleWrite

/-- `ureg1 = ureg2` (R391). -/
def execUregMove (cond : Cond) (c : Option Compute) (dst src : Ureg) (s : State) :
    Host.Outcome State Fault Refusal :=
  writing dst false s <| conditional cond s id fun t =>
    (takeUreg s src).bind fun v => (withSlot c s t).bind fun t => putUreg s t dst (onDmBus v) .register

/-- `ureg = <data32>` (R392). -/
def execLoadImm (dst : Ureg) (v : W32) (s : State) : Host.Outcome State Fault Refusal :=
  writing dst false s <| always s fun t => putUreg s t dst (bus32 v) .register

/-- What a load over the PM bus brings to PX is all 48 bits (R404). -/
def wide (u : Ureg) : Bool := u == .px

/-- Where a word loaded over the PM bus comes from, for its destination. -/
def pmSource : Source := .programMemory

/-- A load whose condition is false: the next instruction still follows a write to CURLCNTR from memory (R449; log entry
22). -/
def notLoaded (dst : Ureg) (t : State) : State := { t with counterLoaded := dst == .curlcntr }

/-- `ureg = DM(Ia, Mb)` (R393). -/
def execLdDmPost (cond : Cond) (c : Option Compute) (dst : Ureg) (i m : Fin 8) (s : State) :
    Host.Outcome State Fault Refusal :=
  writing dst true s <| conditional cond s (notLoaded dst) fun t =>
    (indexClash (dst.isIndex1 i)).bind fun _ =>
    (readWord s .dm false (dag1Address s i).toNat).bind fun v =>
    (withSlot c s t).bind fun t =>
      (putUreg s t dst v .memory).map fun t => updateDag1 s t i m

/-- `DM(Ia, Mb) = ureg` (R393). -/
def execStDmPost (cond : Cond) (c : Option Compute) (i m : Fin 8) (src : Ureg) (s : State) :
    Host.Outcome State Fault Refusal :=
  conditional cond s id fun t =>
    (takeUreg s src).bind fun v =>
    (withSlot c s t).bind fun t =>
      (writeWord t .dm false (dag1Address s i).toNat v).map fun t => updateDag1 s t i m

/-- `ureg = PM(Ic, Md)` (R394). -/
def execLdPmPost (cond : Cond) (c : Option Compute) (dst : Ureg) (i m : Fin 8) (s : State) :
    Host.Outcome State Fault Refusal :=
  writing dst true s <| conditional cond s (notLoaded dst) fun t =>
    (indexClash (dst.isIndex2 i)).bind fun _ =>
    (readWord s .pm (wide dst) (dag2Address s i).toNat).bind fun v =>
    (withSlot c s t).bind fun t =>
      (putUreg s t dst v pmSource).map fun t => updateDag2 s t i m

/-- `PM(Ic, Md) = ureg` (R394). -/
def execStPmPost (cond : Cond) (c : Option Compute) (i m : Fin 8) (src : Ureg) (s : State) :
    Host.Outcome State Fault Refusal :=
  conditional cond s id fun t =>
    (takeUreg s src).bind fun v =>
    (withSlot c s t).bind fun t =>
      (writeWord t .pm (wide src) (dag2Address s i).toNat v).map fun t => updateDag2 s t i m

/-- The address of a pre-modify access through DAG1: no wrap, no bit-reversal, no update (R395). -/
def dag1Pre (s : State) (m i : Fin 8) : W32 := dag1Reg s .i i + dag1Reg s .m m

/-- The same through DAG2. -/
def dag2Pre (s : State) (m i : Fin 8) : A24 := dag2Reg s .i i + dag2Reg s .m m

/-- `ureg = DM(Mb, Ia)` (R395). -/
def execLdDmPre (cond : Cond) (c : Option Compute) (dst : Ureg) (m i : Fin 8) (s : State) :
    Host.Outcome State Fault Refusal :=
  writing dst true s <| conditional cond s (notLoaded dst) fun t =>
    (readWord s .dm false (dag1Pre s m i).toNat).bind fun v =>
    (withSlot c s t).bind fun t => putUreg s t dst v .memory

/-- `DM(Mb, Ia) = ureg` (R395). -/
def execStDmPre (cond : Cond) (c : Option Compute) (m i : Fin 8) (src : Ureg) (s : State) :
    Host.Outcome State Fault Refusal :=
  conditional cond s id fun t =>
    (takeUreg s src).bind fun v =>
    (withSlot c s t).bind fun t => writeWord t .dm false (dag1Pre s m i).toNat v

/-- `ureg = PM(Md, Ic)` (R395). -/
def execLdPmPre (cond : Cond) (c : Option Compute) (dst : Ureg) (m i : Fin 8) (s : State) :
    Host.Outcome State Fault Refusal :=
  writing dst true s <| conditional cond s (notLoaded dst) fun t =>
    (readWord s .pm (wide dst) (dag2Pre s m i).toNat).bind fun v =>
    (withSlot c s t).bind fun t => putUreg s t dst v pmSource

/-- `PM(Md, Ic) = ureg` (R395). -/
def execStPmPre (cond : Cond) (c : Option Compute) (m i : Fin 8) (src : Ureg) (s : State) :
    Host.Outcome State Fault Refusal :=
  conditional cond s id fun t =>
    (takeUreg s src).bind fun v =>
    (withSlot c s t).bind fun t => writeWord t .pm (wide src) (dag2Pre s m i).toNat v

/-- `ureg = DM(<addr32>)` (R396). -/
def execLdDmAbs (dst : Ureg) (addr : W32) (s : State) : Host.Outcome State Fault Refusal :=
  writing dst true s <| always s fun t =>
    (readWord s .dm false addr.toNat).bind fun v => putUreg s t dst v .memory

/-- `DM(<addr32>) = ureg` (R396). -/
def execStDmAbs (addr : W32) (src : Ureg) (s : State) : Host.Outcome State Fault Refusal :=
  always s fun t =>
    (takeUreg s src).bind fun v => writeWord t .dm false addr.toNat v

/-- `ureg = PM(<addr24>)` (R396). -/
def execLdPmAbs (dst : Ureg) (addr : A24) (s : State) : Host.Outcome State Fault Refusal :=
  writing dst true s <| always s fun t =>
    (readWord s .pm (wide dst) addr.toNat).bind fun v => putUreg s t dst v pmSource

/-- `PM(<addr24>) = ureg` (R396). -/
def execStPmAbs (addr : A24) (src : Ureg) (s : State) : Host.Outcome State Fault Refusal :=
  always s fun t =>
    (takeUreg s src).bind fun v => writeWord t .pm (wide src) addr.toNat v

/-! The two-move form (R397). -/

/-- What a side's load brings, read before any write: nothing for a store. -/
def sideLoad (s : State) (sp : Space) (side : DualSide) (a : Nat) : Res W48 :=
  if side.store then .ok 0 else readWord s sp false a

/-- A side's store, of the register as it was before the instruction. -/
def sideStore (s t : State) (sp : Space) (side : DualSide) (a : Nat) : Res State :=
  if side.store then writeWord t sp false a (bus40 (reg s side.reg)) else .ok t

/-- A side's register write. -/
def sideWrite (s t : State) (side : DualSide) (v : W48) : State :=
  if side.store then t else putReg s t side.reg (low40 v)

/-- `[compute ,] Rn|Fn = DM(Ia, Mb) , Rm|Fm = PM(Ic, Md)`, each side a load or a store (R397): reads, then writes; the
DM load wins a register, then the PM load, then the computation (R25). Two accesses to one word are refused (R112,
U12). -/
def execDualMove (cond : Cond) (c : Option Compute) (dm pm : DualSide) (s : State) :
    Host.Outcome State Fault Refusal :=
  let da := (dag1Address s dm.i).toNat
  let pa := (dag2Address s pm.i).toNat
  conditional cond s id fun t =>
    (demand (!oneWord s.cfg da pa (dm.store && pm.store)) .sameWord).bind fun _ =>
    (sideLoad s .dm dm da).bind fun dv =>
    (sideLoad s .pm pm pa).bind fun pv =>
    (withSlot c s t).bind fun t =>
    (sideStore s t .dm dm da).bind fun t =>
    (sideStore s t .pm pm pa).map fun t =>
      updateDag2 s (updateDag1 s (sideWrite s (sideWrite s t pm pv) dm dv) dm.i dm.m) pm.i pm.m

/-- `IF cond compute`: a computation alone under a condition (R397, R147). -/
def execCompute (cond : Cond) (c : Compute) (s : State) : Host.Outcome State Fault Refusal :=
  conditional cond s id fun t => (computeEffect c s).map (applyEffect s t)

end Sys2Proof.Machine
end

