-- ==== Sys2Proof/Machine/System.lean ====
section
/-! DEFINITION. System register bit manipulation, stack instructions, IDLE and NOP (46_program_flow.md R455 to R468). -/

namespace Sys2Proof.Machine

/-- `BIT SET sreg <data32>` (R455). -/
def execBitSet (r : Sreg) (v : W32) (s : State) : Host.Outcome State Fault Refusal :=
  always s fun t => putSreg s t r (readSreg s r ||| v)

/-- `BIT CLR sreg <data32>` (R456). -/
def execBitClr (r : Sreg) (v : W32) (s : State) : Host.Outcome State Fault Refusal :=
  always s fun t => putSreg s t r (readSreg s r &&& ~~~v)

/-- `BIT TGL sreg <data32>` (R457). -/
def execBitTgl (r : Sreg) (v : W32) (s : State) : Host.Outcome State Fault Refusal :=
  always s fun t => putSreg s t r (readSreg s r ^^^ v)

/-- BTF after a bit test (R458): a flag update, with no effect latency (R592). -/
def putBtf (t : State) (b : Bool) : State := putFlags t ⟨btfMask, flagBit 18 b, 0⟩

/-- `BIT TST sreg <data32>` (R458): whether all the named bits are 1. -/
def execBitTst (r : Sreg) (v : W32) (s : State) : Host.Outcome State Fault Refusal :=
  always s fun t => .ok (putBtf t (readSreg s r &&& v == v))

/-- `BIT XOR sreg <data32>` (R459): whether the register equals the data. -/
def execBitXor (r : Sreg) (v : W32) (s : State) : Host.Outcome State Fault Refusal :=
  always s fun t => .ok (putBtf t (readSreg s r == v))

/-- An operation on the PC stack, not right after a write of PCSTKP (R464, R465, R596). -/
def doPcStack (s t : State) : StackOp → Res State
  | .none => .ok t
  | .push => (pcStackFree s).map fun _ => pushPcFree s t
  | .pop => (pcStackFree s).bind fun _ => popPc s t

/-- A restore of ASTAT and MODE1 from the status stack, with the latency of an explicit write (R463, R593). -/
def restoreStatus (s t : State) : Res State :=
  (popStatus t).map fun t => noteWrite (noteWrite t .astat s.astat) .mode1 s.mode1

/-- An operation on the status stack (R462, R463). -/
def doStatus (s t : State) : StackOp → Res State
  | .none => .ok t
  | .push => .ok (pushStatus t)
  | .pop => restoreStatus s t

/-- A stack instruction: not in a delay slot (R440, U3). -/
def stackInstr (s : State) (f : State → Res State) : Host.Outcome State Fault Refusal :=
  always s fun t => (notInSlot s).bind fun _ => f t

/-- `PUSH LOOP` and the stack operations beside it (R460, R146). -/
def execPushLoop (sts pcs : StackOp) (s : State) : Host.Outcome State Fault Refusal :=
  stackInstr s fun t => (doStatus s (pushLoops t) sts).bind fun t => doPcStack s t pcs

/-- `POP LOOP` and the stack operations beside it (R461, R146). -/
def execPopLoop (sts pcs : StackOp) (s : State) : Host.Outcome State Fault Refusal :=
  stackInstr s fun t => (popLoops t).bind fun t => (doStatus s t sts).bind fun t => doPcStack s t pcs

/-- `PUSH STS` and the stack operation beside it (R462, R146). -/
def execPushSts (pcs : StackOp) (s : State) : Host.Outcome State Fault Refusal :=
  stackInstr s fun t => doPcStack s (pushStatus t) pcs

/-- `POP STS` and the stack operation beside it (R463, R146). -/
def execPopSts (pcs : StackOp) (s : State) : Host.Outcome State Fault Refusal :=
  stackInstr s fun t => (restoreStatus s t).bind fun t => doPcStack s t pcs

/-- `PUSH PCSTK` (R464). -/
def execPushPcstk (s : State) : Host.Outcome State Fault Refusal :=
  stackInstr s fun t => doPcStack s t .push

/-- `POP PCSTK` (R465). -/
def execPopPcstk (s : State) : Host.Outcome State Fault Refusal :=
  stackInstr s fun t => doPcStack s t .pop

/-- The wait of IDLE: the pc stays at the IDLE, where to go on is kept (R467). -/
def waitHere (s t : State) : Res State :=
  (notInSlot s).map fun _ => { t with pc := s.pc, idle := some t.pc }

/-- `IDLE16` (R466): on the ADSP-21061 as IDLE; elsewhere its word is no instruction (R152, U35). -/
def execIdle16 (s : State) : Host.Outcome State Fault Refusal :=
  if s.cfg.part = .adsp21061 then always s fun t => waitHere s t else .fault .illegalInstruction

/-- `IDLE` (R467). -/
def execIdle (s : State) : Host.Outcome State Fault Refusal :=
  always s fun t => waitHere s t

/-- `NOP` (R468). -/
def execNop (s : State) : Host.Outcome State Fault Refusal :=
  always s .ok

end Sys2Proof.Machine
end

