-- ==== Sys2Proof/Machine/Dispatch.lean ====
section
/-! DEFINITION. One arm per instruction, each a direct call of its meaning. -/

namespace Sys2Proof.Machine

def exec (i : Instr) (s : State) : Host.Outcome State Fault Refusal :=
  match i with
  | .rAdd n x y => Sys2Proof.Machine.execRAdd n x y s
  | .rSub n x y => Sys2Proof.Machine.execRSub n x y s
  | .rAddCi n x y => Sys2Proof.Machine.execRAddCi n x y s
  | .rSubCi n x y => Sys2Proof.Machine.execRSubCi n x y s
  | .rAvg n x y => Sys2Proof.Machine.execRAvg n x y s
  | .rComp x y => Sys2Proof.Machine.execRComp x y s
  | .rPlusCi n x => Sys2Proof.Machine.execRPlusCi n x s
  | .rPlusCiLess1 n x => Sys2Proof.Machine.execRPlusCiLess1 n x s
  | .rInc n x => Sys2Proof.Machine.execRInc n x s
  | .rDec n x => Sys2Proof.Machine.execRDec n x s
  | .rNeg n x => Sys2Proof.Machine.execRNeg n x s
  | .rAbs n x => Sys2Proof.Machine.execRAbs n x s
  | .rPass n x => Sys2Proof.Machine.execRPass n x s
  | .rAnd n x y => Sys2Proof.Machine.execRAnd n x y s
  | .rOr n x y => Sys2Proof.Machine.execROr n x y s
  | .rXor n x y => Sys2Proof.Machine.execRXor n x y s
  | .rNot n x => Sys2Proof.Machine.execRNot n x s
  | .rMin n x y => Sys2Proof.Machine.execRMin n x y s
  | .rMax n x y => Sys2Proof.Machine.execRMax n x y s
  | .rClip n x y => Sys2Proof.Machine.execRClip n x y s
  | .fAdd n x y => Sys2Proof.Machine.execFAdd n x y s
  | .fSub n x y => Sys2Proof.Machine.execFSub n x y s
  | .fAbsAdd n x y => Sys2Proof.Machine.execFAbsAdd n x y s
  | .fAbsSub n x y => Sys2Proof.Machine.execFAbsSub n x y s
  | .fAvg n x y => Sys2Proof.Machine.execFAvg n x y s
  | .fComp x y => Sys2Proof.Machine.execFComp x y s
  | .fNeg n x => Sys2Proof.Machine.execFNeg n x s
  | .fAbs n x => Sys2Proof.Machine.execFAbs n x s
  | .fPass n x => Sys2Proof.Machine.execFPass n x s
  | .fRnd n x => Sys2Proof.Machine.execFRnd n x s
  | .fScalb n x y => Sys2Proof.Machine.execFScalb n x y s
  | .fMant n x => Sys2Proof.Machine.execFMant n x s
  | .fLogb n x => Sys2Proof.Machine.execFLogb n x s
  | .fFixBy n x y => Sys2Proof.Machine.execFFixBy n x y s
  | .fFix n x => Sys2Proof.Machine.execFFix n x s
  | .fFloatBy n x y => Sys2Proof.Machine.execFFloatBy n x y s
  | .fFloat n x => Sys2Proof.Machine.execFFloat n x s
  | .fRecips n x => Sys2Proof.Machine.execFRecips n x s
  | .fRsqrts n x => Sys2Proof.Machine.execFRsqrts n x s
  | .fCopysign n x y => Sys2Proof.Machine.execFCopysign n x y s
  | .fMin n x y => Sys2Proof.Machine.execFMin n x y s
  | .fMax n x y => Sys2Proof.Machine.execFMax n x y s
  | .fClip n x y => Sys2Proof.Machine.execFClip n x y s
  | .mulR n x y md => Sys2Proof.Machine.execMulR n x y md s
  | .mulMrf x y md => Sys2Proof.Machine.execMulMrf x y md s
  | .mulMrb x y md => Sys2Proof.Machine.execMulMrb x y md s
  | .macAddRMrf n x y md => Sys2Proof.Machine.execMacAddRMrf n x y md s
  | .macAddRMrb n x y md => Sys2Proof.Machine.execMacAddRMrb n x y md s
  | .macAddMrf x y md => Sys2Proof.Machine.execMacAddMrf x y md s
  | .macAddMrb x y md => Sys2Proof.Machine.execMacAddMrb x y md s
  | .macSubRMrf n x y md => Sys2Proof.Machine.execMacSubRMrf n x y md s
  | .macSubRMrb n x y md => Sys2Proof.Machine.execMacSubRMrb n x y md s
  | .macSubMrf x y md => Sys2Proof.Machine.execMacSubMrf x y md s
  | .macSubMrb x y md => Sys2Proof.Machine.execMacSubMrb x y md s
  | .satRMrf n md => Sys2Proof.Machine.execSatRMrf n md s
  | .satRMrb n md => Sys2Proof.Machine.execSatRMrb n md s
  | .satMrf md => Sys2Proof.Machine.execSatMrf md s
  | .satMrb md => Sys2Proof.Machine.execSatMrb md s
  | .rndRMrf n sg => Sys2Proof.Machine.execRndRMrf n sg s
  | .rndRMrb n sg => Sys2Proof.Machine.execRndRMrb n sg s
  | .rndMrf sg => Sys2Proof.Machine.execRndMrf sg s
  | .rndMrb sg => Sys2Proof.Machine.execRndMrb sg s
  | .clrMrf => Sys2Proof.Machine.execClrMrf s
  | .clrMrb => Sys2Proof.Machine.execClrMrb s
  | .rdMr0f n => Sys2Proof.Machine.execRdMr0f n s
  | .rdMr1f n => Sys2Proof.Machine.execRdMr1f n s
  | .rdMr2f n => Sys2Proof.Machine.execRdMr2f n s
  | .rdMr0b n => Sys2Proof.Machine.execRdMr0b n s
  | .rdMr1b n => Sys2Proof.Machine.execRdMr1b n s
  | .rdMr2b n => Sys2Proof.Machine.execRdMr2b n s
  | .wrMr0f n => Sys2Proof.Machine.execWrMr0f n s
  | .wrMr1f n => Sys2Proof.Machine.execWrMr1f n s
  | .wrMr2f n => Sys2Proof.Machine.execWrMr2f n s
  | .wrMr0b n => Sys2Proof.Machine.execWrMr0b n s
  | .wrMr1b n => Sys2Proof.Machine.execWrMr1b n s
  | .wrMr2b n => Sys2Proof.Machine.execWrMr2b n s
  | .fMul n x y => Sys2Proof.Machine.execFMul n x y s
  | .lshift n x y => Sys2Proof.Machine.execLshift n x y s
  | .lshiftImm n x d => Sys2Proof.Machine.execLshiftImm n x d s
  | .orLshift n x y => Sys2Proof.Machine.execOrLshift n x y s
  | .orLshiftImm n x d => Sys2Proof.Machine.execOrLshiftImm n x d s
  | .ashift n x y => Sys2Proof.Machine.execAshift n x y s
  | .ashiftImm n x d => Sys2Proof.Machine.execAshiftImm n x d s
  | .orAshift n x y => Sys2Proof.Machine.execOrAshift n x y s
  | .orAshiftImm n x d => Sys2Proof.Machine.execOrAshiftImm n x d s
  | .rot n x y => Sys2Proof.Machine.execRot n x y s
  | .rotImm n x d => Sys2Proof.Machine.execRotImm n x d s
  | .bclr n x y => Sys2Proof.Machine.execBclr n x y s
  | .bclrImm n x d => Sys2Proof.Machine.execBclrImm n x d s
  | .bset n x y => Sys2Proof.Machine.execBset n x y s
  | .bsetImm n x d => Sys2Proof.Machine.execBsetImm n x d s
  | .btgl n x y => Sys2Proof.Machine.execBtgl n x y s
  | .btglImm n x d => Sys2Proof.Machine.execBtglImm n x d s
  | .btst x y => Sys2Proof.Machine.execBtst x y s
  | .btstImm x d => Sys2Proof.Machine.execBtstImm x d s
  | .fdep n x y => Sys2Proof.Machine.execFdep n x y s
  | .fdepImm n x bit len => Sys2Proof.Machine.execFdepImm n x bit len s
  | .orFdep n x y => Sys2Proof.Machine.execOrFdep n x y s
  | .orFdepImm n x bit len => Sys2Proof.Machine.execOrFdepImm n x bit len s
  | .fdepSe n x y => Sys2Proof.Machine.execFdepSe n x y s
  | .fdepSeImm n x bit len => Sys2Proof.Machine.execFdepSeImm n x bit len s
  | .orFdepSe n x y => Sys2Proof.Machine.execOrFdepSe n x y s
  | .orFdepSeImm n x bit len => Sys2Proof.Machine.execOrFdepSeImm n x bit len s
  | .fext n x y => Sys2Proof.Machine.execFext n x y s
  | .fextImm n x bit len => Sys2Proof.Machine.execFextImm n x bit len s
  | .fextSe n x y => Sys2Proof.Machine.execFextSe n x y s
  | .fextSeImm n x bit len => Sys2Proof.Machine.execFextSeImm n x bit len s
  | .expo n x => Sys2Proof.Machine.execExpo n x s
  | .expoEx n x => Sys2Proof.Machine.execExpoEx n x s
  | .leftz n x => Sys2Proof.Machine.execLeftz n x s
  | .lefto n x => Sys2Proof.Machine.execLefto n x s
  | .fpack n x => Sys2Proof.Machine.execFpack n x s
  | .funpack n x => Sys2Proof.Machine.execFunpack n x s
  | .dualAddSub a d x y => Sys2Proof.Machine.execDualAddSub a d x y s
  | .dualFAddSub a d x y => Sys2Proof.Machine.execDualFAddSub a d x y s
  | .mulRWithAdd m a xm ym xa ya => Sys2Proof.Machine.execMulRWithAdd m a xm ym xa ya s
  | .mulRWithSub m a xm ym xa ya => Sys2Proof.Machine.execMulRWithSub m a xm ym xa ya s
  | .mulRWithAvg m a xm ym xa ya => Sys2Proof.Machine.execMulRWithAvg m a xm ym xa ya s
  | .macAddMrfWithAdd a xm ym xa ya => Sys2Proof.Machine.execMacAddMrfWithAdd a xm ym xa ya s
  | .macAddMrfWithSub a xm ym xa ya => Sys2Proof.Machine.execMacAddMrfWithSub a xm ym xa ya s
  | .macAddMrfWithAvg a xm ym xa ya => Sys2Proof.Machine.execMacAddMrfWithAvg a xm ym xa ya s
  | .macAddRMrfWithAdd m a xm ym xa ya => Sys2Proof.Machine.execMacAddRMrfWithAdd m a xm ym xa ya s
  | .macAddRMrfWithSub m a xm ym xa ya => Sys2Proof.Machine.execMacAddRMrfWithSub m a xm ym xa ya s
  | .macAddRMrfWithAvg m a xm ym xa ya => Sys2Proof.Machine.execMacAddRMrfWithAvg m a xm ym xa ya s
  | .macSubMrfWithAdd a xm ym xa ya => Sys2Proof.Machine.execMacSubMrfWithAdd a xm ym xa ya s
  | .macSubMrfWithSub a xm ym xa ya => Sys2Proof.Machine.execMacSubMrfWithSub a xm ym xa ya s
  | .macSubMrfWithAvg a xm ym xa ya => Sys2Proof.Machine.execMacSubMrfWithAvg a xm ym xa ya s
  | .macSubRMrfWithAdd m a xm ym xa ya => Sys2Proof.Machine.execMacSubRMrfWithAdd m a xm ym xa ya s
  | .macSubRMrfWithSub m a xm ym xa ya => Sys2Proof.Machine.execMacSubRMrfWithSub m a xm ym xa ya s
  | .macSubRMrfWithAvg m a xm ym xa ya => Sys2Proof.Machine.execMacSubRMrfWithAvg m a xm ym xa ya s
  | .fMulWithFAdd m a xm ym xa ya => Sys2Proof.Machine.execFMulWithFAdd m a xm ym xa ya s
  | .fMulWithFSub m a xm ym xa ya => Sys2Proof.Machine.execFMulWithFSub m a xm ym xa ya s
  | .fMulWithFloatBy m a xm ym xa ya => Sys2Proof.Machine.execFMulWithFloatBy m a xm ym xa ya s
  | .fMulWithFixBy m a xm ym xa ya => Sys2Proof.Machine.execFMulWithFixBy m a xm ym xa ya s
  | .fMulWithFAvg m a xm ym xa ya => Sys2Proof.Machine.execFMulWithFAvg m a xm ym xa ya s
  | .fMulWithFAbs m a xm ym xa => Sys2Proof.Machine.execFMulWithFAbs m a xm ym xa s
  | .fMulWithFMax m a xm ym xa ya => Sys2Proof.Machine.execFMulWithFMax m a xm ym xa ya s
  | .fMulWithFMin m a xm ym xa ya => Sys2Proof.Machine.execFMulWithFMin m a xm ym xa ya s
  | .mulRWithDual m a d xm ym xa ya => Sys2Proof.Machine.execMulRWithDual m a d xm ym xa ya s
  | .fMulWithDual m a d xm ym xa ya => Sys2Proof.Machine.execFMulWithDual m a d xm ym xa ya s
  | .uregMove cond c dst src => Sys2Proof.Machine.execUregMove cond c dst src s
  | .loadImm dst v => Sys2Proof.Machine.execLoadImm dst v s
  | .ldDmPost cond c dst ix mx => Sys2Proof.Machine.execLdDmPost cond c dst ix mx s
  | .stDmPost cond c ix mx src => Sys2Proof.Machine.execStDmPost cond c ix mx src s
  | .ldPmPost cond c dst ix mx => Sys2Proof.Machine.execLdPmPost cond c dst ix mx s
  | .stPmPost cond c ix mx src => Sys2Proof.Machine.execStPmPost cond c ix mx src s
  | .ldDmPre cond c dst mx ix => Sys2Proof.Machine.execLdDmPre cond c dst mx ix s
  | .stDmPre cond c mx ix src => Sys2Proof.Machine.execStDmPre cond c mx ix src s
  | .ldPmPre cond c dst mx ix => Sys2Proof.Machine.execLdPmPre cond c dst mx ix s
  | .stPmPre cond c mx ix src => Sys2Proof.Machine.execStPmPre cond c mx ix src s
  | .ldDmAbs dst addr => Sys2Proof.Machine.execLdDmAbs dst addr s
  | .stDmAbs addr src => Sys2Proof.Machine.execStDmAbs addr src s
  | .ldPmAbs dst addr => Sys2Proof.Machine.execLdPmAbs dst addr s
  | .stPmAbs addr src => Sys2Proof.Machine.execStPmAbs addr src s
  | .dualMove cond c dm pm => Sys2Proof.Machine.execDualMove cond c dm pm s
  | .compute cond c => Sys2Proof.Machine.execCompute cond c s
  | .jumpAbs cond addr db c => Sys2Proof.Machine.execJumpAbs cond addr db c s
  | .jumpRel cond off db c => Sys2Proof.Machine.execJumpRel cond off db c s
  | .jumpInd cond mx ix db c => Sys2Proof.Machine.execJumpInd cond mx ix db c s
  | .callAbs cond addr db c => Sys2Proof.Machine.execCallAbs cond addr db c s
  | .callRel cond off db c => Sys2Proof.Machine.execCallRel cond off db c s
  | .callInd cond mx ix db c => Sys2Proof.Machine.execCallInd cond mx ix db c s
  | .rts cond db c => Sys2Proof.Machine.execRts cond db c s
  | .rtsLr cond db c => Sys2Proof.Machine.execRtsLr cond db c s
  | .rti cond db c => Sys2Proof.Machine.execRti cond db c s
  | .jumpLa cond t db ci c => Sys2Proof.Machine.execJumpLa cond t db ci c s
  | .jumpCi cond t db c => Sys2Proof.Machine.execJumpCi cond t db c s
  | .doAbs addr term => Sys2Proof.Machine.execDoAbs addr term s
  | .doRel off term => Sys2Proof.Machine.execDoRel off term s
  | .doCountImm v d => Sys2Proof.Machine.execDoCountImm v d s
  | .doCountUreg src d => Sys2Proof.Machine.execDoCountUreg src d s
  | .bitSet r v => Sys2Proof.Machine.execBitSet r v s
  | .bitClr r v => Sys2Proof.Machine.execBitClr r v s
  | .bitTgl r v => Sys2Proof.Machine.execBitTgl r v s
  | .bitTst r v => Sys2Proof.Machine.execBitTst r v s
  | .bitXor r v => Sys2Proof.Machine.execBitXor r v s
  | .pushLoop sts pcs => Sys2Proof.Machine.execPushLoop sts pcs s
  | .popLoop sts pcs => Sys2Proof.Machine.execPopLoop sts pcs s
  | .pushSts pcs => Sys2Proof.Machine.execPushSts pcs s
  | .popSts pcs => Sys2Proof.Machine.execPopSts pcs s
  | .pushPcstk => Sys2Proof.Machine.execPushPcstk s
  | .popPcstk => Sys2Proof.Machine.execPopPcstk s
  | .idle16 => Sys2Proof.Machine.execIdle16 s
  | .idle => Sys2Proof.Machine.execIdle s
  | .nop => Sys2Proof.Machine.execNop s

end Sys2Proof.Machine
end

