-- ==== Sys2Proof/Machine/Step.lean ====
section
/-! DEFINITION. One step of the machine: the environment acts, then an interrupt is entered, or the core waits in IDLE,
or one instruction is fetched, decoded and executed (R15, R514, D9, D14). -/

namespace Sys2Proof.Machine

/-- The core's part of a step when no interrupt is entered. -/
def runCore (s : State) : Host.Outcome State Fault Refusal :=
  match s.idle with
  | some _ => .next (waitStep s)
  | none =>
    if runIsOver s then .fault .runEnded
    else
      match fetchInstr s with
      | .error (.fault f) => .fault f
      | .error (.refuse r) => .refused r
      | .ok i =>
        match exec i s with
        | .next t => .next (timerTick s t)
        | .fault f => .fault f
        | .refused r => .refused r

/-- One step. An arithmetic request is latched after the entry of this boundary is decided, so that one more
instruction runs before it can be entered (R526). -/
def step (s : State) : Host.Outcome State Fault Refusal :=
  match entryNow (envStep s) with
  | some b => .next (takeInterrupt (latchArithmetic (envStep s)) b)
  | none => runCore (latchArithmetic (holdRequest (envStep s)))

/-- `s` with an instruction's bits stored where `step` fetches next. -/
def State.withFetchWord (s : State) (nbits w : Nat) : State := placeWord s (w % 2 ^ nbits)

end Sys2Proof.Machine
end

