-- ==== Sys2Proof/Safety.lean ====
section
/-! DEFINITION. What counts as a safe run, and the invariants of the machine that the claims use. -/

namespace Sys2Proof.Machine

/-- An outcome that is a next state. -/
def goesOn (o : Host.Outcome State Fault Refusal) : Bool :=
  match o with
  | .next _ => true
  | .fault _ => false
  | .refused _ => false

/-- A run of `n` steps from `s` with neither a fault nor a refusal. -/
def runsSafely (n : Nat) (s : State) : Bool := goesOn (core.run n s)

/-- A list of addresses strictly rises. -/
def rises : List Nat → Bool
  | [] => true
  | [_] => true
  | a :: b :: l => decide (a < b) && rises (b :: l)

/-- Memory, the list of written words and that of words of another width are in their canonical forms, so that equal
contents are equal data. -/
def memoryCanonical (s : State) : Bool := s.mem.wf && rises s.dirty && rises s.rewidth

/-- No interrupt is latched whose routine is in service (R518); the reserved bits of IRPTL and the reset bit are clear
(R519); the status stack holds at most `STS_DEPTH` pairs (R42). -/
def interruptsConsistent (s : State) : Bool :=
  s.irptl &&& s.imaskp == 0 && s.irptl &&& irptlReserved == 0 && decide (s.sts.length ≤ s.cfg.stsDepth)

/-- ASTAT and STKY do not store the bits that follow the flag inputs and the stacks (R50, R52). -/
def statusStored (s : State) : Bool := s.astat &&& flagInMask == 0 && s.stky &&& stackStatusMask == 0

end Sys2Proof.Machine
end

