-- ==== Sys2Proof/Claims.lean ====
section
/-! DEFINITION. The words the claims use: how a run of one instruction is described, which registers and flags each
computation owns, and results worked out over the integers and rationals, apart from the meanings in Machine. -/

namespace Sys2Proof.Machine

/-! The sequencer's part of an instruction. -/

/-- `s` with everything that the sequencer of an instruction may change taken from `u`: the pc, a delayed branch, the
stack pointers, the loop counters, a short loop running out, and the latencies that have passed (R430, R445, R593). -/
def sequencedTo (s u : State) : State :=
  { s with
    pc := u.pc
    dbr := u.dbr
    slots := u.slots
    pcstkp := u.pcstkp
    lcs := u.lcs
    lsp := u.lsp
    tail := u.tail
    ending := u.ending
    nonSeq := u.nonSeq
    latent := u.latent
    latentPcstkp := u.latentPcstkp
    counterLoaded := u.counterLoaded
    justEntered := u.justEntered
    drawn := u.drawn }

/-- The stacks are such that no loop end can stop the sequencer: no loop is active, or the PC stack holds a top-of-loop
address for every active loop, is not overflowed and was not written through its pointer just before, and this is not
the end of a loop nested as R449 forbids. -/
def flowReady (s : State) : Bool :=
  s.lsp.val == 0 ||
    (s.latentPcstkp.isNone && decide (s.lsp.val ≤ s.pcstkp.toNat) && decide (s.pcstkp.toNat ≤ 30) && !endsClash s)

/-- `i` runs from `s`: the sequencer goes on to a state `t` that differs from `s` in the sequencer's own fields only, and
the instruction answers the next state `f t`. -/
def completes (i : Instr) (s : State) (f : State → State) : Prop :=
  ∃ t, sequenced s = .ok t ∧ t = sequencedTo s t ∧ exec i s = .next (f t)

/-- `i` runs from `s` and does what the compute effect `e` says. -/
def computes (i : Instr) (s : State) (e : Effect) : Prop := completes i s fun t => applyEffect s t e

/-- `i` runs from `s`: on the sequenced state `t` the operation `f` answers, and its answer is the next state. -/
def transfers (i : Instr) (s : State) (f : State → Res State) : Prop :=
  ∃ t u, sequenced s = .ok t ∧ t = sequencedTo s t ∧ f t = .ok u ∧ exec i s = .next u

/-- An IF with this condition may stand here: IF NOT LCE not right after a load of CURLCNTR from memory (R449). -/
def mayTest (c : Cond) (s : State) : Bool := !(c == .lce && s.counterLoaded)

/-- A branch may stand here: not in a delay slot, not among the last three instructions of a loop (R440, R449). -/
def branchFree (s : State) : Bool := !inSlot s && !atLoopEnd s

/-- A nondelayed call may besides stand at the end of a loop that is long enough (R449). -/
def callFree (s : State) (db : Bool) : Bool := !inSlot s && (!atLoopEnd s || (!db && callMayEndLoop s))

/-- The PC stack can be popped: it holds an entry, is not overflowed and was not written through its pointer just
before. -/
def popReady (s : State) : Bool :=
  s.latentPcstkp.isNone && decide (1 ≤ s.pcstkp.toNat) && decide (s.pcstkp.toNat ≤ 30)

/-- The restricted locations after a delayed branch at `s.pc` (R440): the two that follow it, and those still restricted. -/
def slotsAfter (s t : State) : List A24 := (s.pc + 1) :: (s.pc + 2) :: t.slots

/-- What a branch to `j` makes of the sequenced state `t` (R430): the next instruction is at `j`, or after two more. -/
def branched (s t : State) (j : A24) (db : Bool) : State :=
  if db = true then { t with dbr := some ⟨j, true⟩, slots := slotsAfter s t } else { t with pc := j, nonSeq := 1 }

/-- What a branch not taken leaves: a delayed one still restricts the two locations after it (R440). -/
def notTaken (s t : State) (db : Bool) : State := if db = true then { t with slots := slotsAfter s t } else t

/-! What each computation owns. -/

/-- The data registers a computation writes. -/
def destsOf : Compute → List Reg
  | .rAdd n _ _ | .rSub n _ _ | .rAddCi n _ _ | .rSubCi n _ _ | .rAvg n _ _ | .rPlusCi n _ | .rPlusCiLess1 n _
    | .rInc n _ | .rDec n _ | .rNeg n _ | .rAbs n _ | .rPass n _ | .rAnd n _ _ | .rOr n _ _ | .rXor n _ _
    | .rNot n _ | .rMin n _ _ | .rMax n _ _ | .rClip n _ _ | .fAdd n _ _ | .fSub n _ _ | .fAbsAdd n _ _
    | .fAbsSub n _ _ | .fAvg n _ _ | .fNeg n _ | .fAbs n _ | .fPass n _ | .fRnd n _ | .fScalb n _ _ | .fMant n _
    | .fLogb n _ | .fFixBy n _ _ | .fFix n _ | .fFloatBy n _ _ | .fFloat n _ | .fRecips n _ | .fRsqrts n _
    | .fCopysign n _ _ | .fMin n _ _ | .fMax n _ _ | .fClip n _ _ | .mulR n _ _ _ | .macAddRMrf n _ _ _
    | .macAddRMrb n _ _ _ | .macSubRMrf n _ _ _ | .macSubRMrb n _ _ _ | .satRMrf n _ | .satRMrb n _
    | .rndRMrf n _ | .rndRMrb n _ | .rdMr0f n | .rdMr1f n | .rdMr2f n | .rdMr0b n | .rdMr1b n | .rdMr2b n
    | .fMul n _ _ | .lshift n _ _ | .lshiftImm n _ _ | .orLshift n _ _ | .orLshiftImm n _ _ | .ashift n _ _
    | .ashiftImm n _ _ | .orAshift n _ _ | .orAshiftImm n _ _ | .rot n _ _ | .rotImm n _ _ | .bclr n _ _
    | .bclrImm n _ _ | .bset n _ _ | .bsetImm n _ _ | .btgl n _ _ | .btglImm n _ _ | .fdep n _ _
    | .fdepImm n _ _ _ | .orFdep n _ _ | .orFdepImm n _ _ _ | .fdepSe n _ _ | .fdepSeImm n _ _ _
    | .orFdepSe n _ _ | .orFdepSeImm n _ _ _ | .fext n _ _ | .fextImm n _ _ _ | .fextSe n _ _
    | .fextSeImm n _ _ _ | .expo n _ | .expoEx n _ | .leftz n _ | .lefto n _ | .fpack n _ | .funpack n _ => [n]
  | .rComp _ _ | .fComp _ _ | .mulMrf _ _ _ | .mulMrb _ _ _ | .macAddMrf _ _ _ | .macAddMrb _ _ _
    | .macSubMrf _ _ _ | .macSubMrb _ _ _ | .satMrf _ | .satMrb _ | .rndMrf _ | .rndMrb _ | .clrMrf | .clrMrb
    | .wrMr0f _ | .wrMr1f _ | .wrMr2f _ | .wrMr0b _ | .wrMr1b _ | .wrMr2b _ | .btst _ _ | .btstImm _ _ => []
  | .dualAddSub a s _ _ | .dualFAddSub a s _ _ => [a, s]
  | .mulRWithAdd m a _ _ _ _ | .mulRWithSub m a _ _ _ _ | .mulRWithAvg m a _ _ _ _
    | .macAddRMrfWithAdd m a _ _ _ _ | .macAddRMrfWithSub m a _ _ _ _ | .macAddRMrfWithAvg m a _ _ _ _
    | .macSubRMrfWithAdd m a _ _ _ _ | .macSubRMrfWithSub m a _ _ _ _ | .macSubRMrfWithAvg m a _ _ _ _
    | .fMulWithFAdd m a _ _ _ _ | .fMulWithFSub m a _ _ _ _ | .fMulWithFloatBy m a _ _ _ _
    | .fMulWithFixBy m a _ _ _ _ | .fMulWithFAvg m a _ _ _ _ | .fMulWithFAbs m a _ _ _
    | .fMulWithFMax m a _ _ _ _ | .fMulWithFMin m a _ _ _ _ => [m, a]
  | .macAddMrfWithAdd a _ _ _ _ | .macAddMrfWithSub a _ _ _ _ | .macAddMrfWithAvg a _ _ _ _
    | .macSubMrfWithAdd a _ _ _ _ | .macSubMrfWithSub a _ _ _ _ | .macSubMrfWithAvg a _ _ _ _ => [a]
  | .mulRWithDual m a s _ _ _ _ | .fMulWithDual m a s _ _ _ _ => [m, a, s]

/-- The MR register a computation writes: false MRF, true MRB. -/
def mrDestOf : Compute → Option Bool
  | .mulMrf _ _ _ | .macAddMrf _ _ _ | .macSubMrf _ _ _ | .satMrf _ | .rndMrf _ | .clrMrf | .wrMr0f _
    | .wrMr1f _ | .wrMr2f _ | .macAddMrfWithAdd _ _ _ _ _ | .macAddMrfWithSub _ _ _ _ _
    | .macAddMrfWithAvg _ _ _ _ _ | .macSubMrfWithAdd _ _ _ _ _ | .macSubMrfWithSub _ _ _ _ _
    | .macSubMrfWithAvg _ _ _ _ _ => some false
  | .mulMrb _ _ _ | .macAddMrb _ _ _ | .macSubMrb _ _ _ | .satMrb _ | .rndMrb _ | .clrMrb | .wrMr0b _
    | .wrMr1b _ | .wrMr2b _ => some true
  | .rAdd _ _ _ | .rSub _ _ _ | .rAddCi _ _ _ | .rSubCi _ _ _ | .rAvg _ _ _ | .rComp _ _ | .rPlusCi _ _
    | .rPlusCiLess1 _ _ | .rInc _ _ | .rDec _ _ | .rNeg _ _ | .rAbs _ _ | .rPass _ _ | .rAnd _ _ _ | .rOr _ _ _
    | .rXor _ _ _ | .rNot _ _ | .rMin _ _ _ | .rMax _ _ _ | .rClip _ _ _ | .fAdd _ _ _ | .fSub _ _ _
    | .fAbsAdd _ _ _ | .fAbsSub _ _ _ | .fAvg _ _ _ | .fComp _ _ | .fNeg _ _ | .fAbs _ _ | .fPass _ _
    | .fRnd _ _ | .fScalb _ _ _ | .fMant _ _ | .fLogb _ _ | .fFixBy _ _ _ | .fFix _ _ | .fFloatBy _ _ _
    | .fFloat _ _ | .fRecips _ _ | .fRsqrts _ _ | .fCopysign _ _ _ | .fMin _ _ _ | .fMax _ _ _ | .fClip _ _ _
    | .mulR _ _ _ _ | .macAddRMrf _ _ _ _ | .macAddRMrb _ _ _ _ | .macSubRMrf _ _ _ _ | .macSubRMrb _ _ _ _
    | .satRMrf _ _ | .satRMrb _ _ | .rndRMrf _ _ | .rndRMrb _ _ | .rdMr0f _ | .rdMr1f _ | .rdMr2f _ | .rdMr0b _
    | .rdMr1b _ | .rdMr2b _ | .fMul _ _ _ | .lshift _ _ _ | .lshiftImm _ _ _ | .orLshift _ _ _
    | .orLshiftImm _ _ _ | .ashift _ _ _ | .ashiftImm _ _ _ | .orAshift _ _ _ | .orAshiftImm _ _ _ | .rot _ _ _
    | .rotImm _ _ _ | .bclr _ _ _ | .bclrImm _ _ _ | .bset _ _ _ | .bsetImm _ _ _ | .btgl _ _ _ | .btglImm _ _ _
    | .btst _ _ | .btstImm _ _ | .fdep _ _ _ | .fdepImm _ _ _ _ | .orFdep _ _ _ | .orFdepImm _ _ _ _
    | .fdepSe _ _ _ | .fdepSeImm _ _ _ _ | .orFdepSe _ _ _ | .orFdepSeImm _ _ _ _ | .fext _ _ _
    | .fextImm _ _ _ _ | .fextSe _ _ _ | .fextSeImm _ _ _ _ | .expo _ _ | .expoEx _ _ | .leftz _ _ | .lefto _ _
    | .fpack _ _ | .funpack _ _ | .dualAddSub _ _ _ _ | .dualFAddSub _ _ _ _ | .mulRWithAdd _ _ _ _ _ _
    | .mulRWithSub _ _ _ _ _ _ | .mulRWithAvg _ _ _ _ _ _ | .macAddRMrfWithAdd _ _ _ _ _ _
    | .macAddRMrfWithSub _ _ _ _ _ _ | .macAddRMrfWithAvg _ _ _ _ _ _ | .macSubRMrfWithAdd _ _ _ _ _ _
    | .macSubRMrfWithSub _ _ _ _ _ _ | .macSubRMrfWithAvg _ _ _ _ _ _ | .fMulWithFAdd _ _ _ _ _ _
    | .fMulWithFSub _ _ _ _ _ _ | .fMulWithFloatBy _ _ _ _ _ _ | .fMulWithFixBy _ _ _ _ _ _
    | .fMulWithFAvg _ _ _ _ _ _ | .fMulWithFAbs _ _ _ _ _ | .fMulWithFMax _ _ _ _ _ _
    | .fMulWithFMin _ _ _ _ _ _ | .mulRWithDual _ _ _ _ _ _ _ | .fMulWithDual _ _ _ _ _ _ _ => none

/-- The ASTAT bits a computation writes (R49 to R51). -/
def flagMaskOf : Compute → W32
  | .rAdd _ _ _ | .rSub _ _ _ | .rAddCi _ _ _ | .rSubCi _ _ _ | .rAvg _ _ _ | .rPlusCi _ _ | .rPlusCiLess1 _ _
    | .rInc _ _ | .rDec _ _ | .rNeg _ _ | .rAbs _ _ | .rPass _ _ | .rAnd _ _ _ | .rOr _ _ _ | .rXor _ _ _
    | .rNot _ _ | .rMin _ _ _ | .rMax _ _ _ | .rClip _ _ _ | .fAdd _ _ _ | .fSub _ _ _ | .fAbsAdd _ _ _
    | .fAbsSub _ _ _ | .fAvg _ _ _ | .fNeg _ _ | .fAbs _ _ | .fPass _ _ | .fRnd _ _ | .fScalb _ _ _ | .fMant _ _
    | .fLogb _ _ | .fFixBy _ _ _ | .fFix _ _ | .fFloatBy _ _ _ | .fFloat _ _ | .fRecips _ _ | .fRsqrts _ _
    | .fCopysign _ _ _ | .fMin _ _ _ | .fMax _ _ _ | .fClip _ _ _ | .dualAddSub _ _ _ _ | .dualFAddSub _ _ _ _ => aluMask
  | .rComp _ _ | .fComp _ _ => aluMask ||| caccMask
  | .mulR _ _ _ _ | .mulMrf _ _ _ | .mulMrb _ _ _ | .macAddRMrf _ _ _ _ | .macAddRMrb _ _ _ _ | .macAddMrf _ _ _
    | .macAddMrb _ _ _ | .macSubRMrf _ _ _ _ | .macSubRMrb _ _ _ _ | .macSubMrf _ _ _ | .macSubMrb _ _ _
    | .satRMrf _ _ | .satRMrb _ _ | .satMrf _ | .satMrb _ | .rndRMrf _ _ | .rndRMrb _ _ | .rndMrf _ | .rndMrb _
    | .clrMrf | .clrMrb | .rdMr0f _ | .rdMr1f _ | .rdMr2f _ | .rdMr0b _ | .rdMr1b _ | .rdMr2b _ | .wrMr0f _
    | .wrMr1f _ | .wrMr2f _ | .wrMr0b _ | .wrMr1b _ | .wrMr2b _ | .fMul _ _ _ => mulMask
  | .lshift _ _ _ | .lshiftImm _ _ _ | .orLshift _ _ _ | .orLshiftImm _ _ _ | .ashift _ _ _ | .ashiftImm _ _ _
    | .orAshift _ _ _ | .orAshiftImm _ _ _ | .rot _ _ _ | .rotImm _ _ _ | .bclr _ _ _ | .bclrImm _ _ _
    | .bset _ _ _ | .bsetImm _ _ _ | .btgl _ _ _ | .btglImm _ _ _ | .btst _ _ | .btstImm _ _ | .fdep _ _ _
    | .fdepImm _ _ _ _ | .orFdep _ _ _ | .orFdepImm _ _ _ _ | .fdepSe _ _ _ | .fdepSeImm _ _ _ _
    | .orFdepSe _ _ _ | .orFdepSeImm _ _ _ _ | .fext _ _ _ | .fextImm _ _ _ _ | .fextSe _ _ _
    | .fextSeImm _ _ _ _ | .expo _ _ | .expoEx _ _ | .leftz _ _ | .lefto _ _ | .fpack _ _ | .funpack _ _ => shiftMask
  | .mulRWithAdd _ _ _ _ _ _ | .mulRWithSub _ _ _ _ _ _ | .mulRWithAvg _ _ _ _ _ _ | .macAddMrfWithAdd _ _ _ _ _
    | .macAddMrfWithSub _ _ _ _ _ | .macAddMrfWithAvg _ _ _ _ _ | .macAddRMrfWithAdd _ _ _ _ _ _
    | .macAddRMrfWithSub _ _ _ _ _ _ | .macAddRMrfWithAvg _ _ _ _ _ _ | .macSubMrfWithAdd _ _ _ _ _
    | .macSubMrfWithSub _ _ _ _ _ | .macSubMrfWithAvg _ _ _ _ _ | .macSubRMrfWithAdd _ _ _ _ _ _
    | .macSubRMrfWithSub _ _ _ _ _ _ | .macSubRMrfWithAvg _ _ _ _ _ _ | .fMulWithFAdd _ _ _ _ _ _
    | .fMulWithFSub _ _ _ _ _ _ | .fMulWithFloatBy _ _ _ _ _ _ | .fMulWithFixBy _ _ _ _ _ _
    | .fMulWithFAvg _ _ _ _ _ _ | .fMulWithFAbs _ _ _ _ _ | .fMulWithFMax _ _ _ _ _ _
    | .fMulWithFMin _ _ _ _ _ _ | .mulRWithDual _ _ _ _ _ _ _ | .fMulWithDual _ _ _ _ _ _ _ => aluMask ||| mulMask

/-- The STKY bits a computation may set (R52). -/
def stickyMaskOf : Compute → W32
  | .rAdd _ _ _ | .rSub _ _ _ | .rAddCi _ _ _ | .rSubCi _ _ _ | .rPlusCi _ _ | .rPlusCiLess1 _ _ | .rInc _ _
    | .rDec _ _ | .rNeg _ _ | .rAbs _ _ | .dualAddSub _ _ _ _ => 0x00000004
  | .rAvg _ _ _ | .rComp _ _ | .rPass _ _ | .rAnd _ _ _ | .rOr _ _ _ | .rXor _ _ _ | .rNot _ _ | .rMin _ _ _
    | .rMax _ _ _ | .rClip _ _ _ | .clrMrf | .clrMrb | .rdMr0f _ | .rdMr1f _ | .rdMr2f _ | .rdMr0b _ | .rdMr1b _
    | .rdMr2b _ | .wrMr0f _ | .wrMr1f _ | .wrMr2f _ | .wrMr0b _ | .wrMr1b _ | .wrMr2b _ | .lshift _ _ _
    | .lshiftImm _ _ _ | .orLshift _ _ _ | .orLshiftImm _ _ _ | .ashift _ _ _ | .ashiftImm _ _ _
    | .orAshift _ _ _ | .orAshiftImm _ _ _ | .rot _ _ _ | .rotImm _ _ _ | .bclr _ _ _ | .bclrImm _ _ _
    | .bset _ _ _ | .bsetImm _ _ _ | .btgl _ _ _ | .btglImm _ _ _ | .btst _ _ | .btstImm _ _ | .fdep _ _ _
    | .fdepImm _ _ _ _ | .orFdep _ _ _ | .orFdepImm _ _ _ _ | .fdepSe _ _ _ | .fdepSeImm _ _ _ _
    | .orFdepSe _ _ _ | .orFdepSeImm _ _ _ _ | .fext _ _ _ | .fextImm _ _ _ _ | .fextSe _ _ _
    | .fextSeImm _ _ _ _ | .expo _ _ | .expoEx _ _ | .leftz _ _ | .lefto _ _ | .fpack _ _ | .funpack _ _ => 0
  | .fAdd _ _ _ | .fSub _ _ _ | .fAbsAdd _ _ _ | .fAbsSub _ _ _ | .fAvg _ _ _ | .fComp _ _ | .fNeg _ _
    | .fAbs _ _ | .fPass _ _ | .fRnd _ _ | .fScalb _ _ _ | .fMant _ _ | .fLogb _ _ | .fFixBy _ _ _ | .fFix _ _
    | .fFloatBy _ _ _ | .fFloat _ _ | .fRecips _ _ | .fRsqrts _ _ | .fCopysign _ _ _ | .fMin _ _ _ | .fMax _ _ _
    | .fClip _ _ _ | .dualFAddSub _ _ _ _ => 0x00000023
  | .mulR _ _ _ _ | .mulMrf _ _ _ | .mulMrb _ _ _ | .macAddRMrf _ _ _ _ | .macAddRMrb _ _ _ _ | .macAddMrf _ _ _
    | .macAddMrb _ _ _ | .macSubRMrf _ _ _ _ | .macSubRMrb _ _ _ _ | .macSubMrf _ _ _ | .macSubMrb _ _ _
    | .satRMrf _ _ | .satRMrb _ _ | .satMrf _ | .satMrb _ | .rndRMrf _ _ | .rndRMrb _ _ | .rndMrf _ | .rndMrb _ => 0x00000140
  | .fMul _ _ _ => 0x00000380
  | .mulRWithAdd _ _ _ _ _ _ | .mulRWithSub _ _ _ _ _ _ | .mulRWithAvg _ _ _ _ _ _ | .macAddMrfWithAdd _ _ _ _ _
    | .macAddMrfWithSub _ _ _ _ _ | .macAddMrfWithAvg _ _ _ _ _ | .macAddRMrfWithAdd _ _ _ _ _ _
    | .macAddRMrfWithSub _ _ _ _ _ _ | .macAddRMrfWithAvg _ _ _ _ _ _ | .macSubMrfWithAdd _ _ _ _ _
    | .macSubMrfWithSub _ _ _ _ _ | .macSubMrfWithAvg _ _ _ _ _ | .macSubRMrfWithAdd _ _ _ _ _ _
    | .macSubRMrfWithSub _ _ _ _ _ _ | .macSubRMrfWithAvg _ _ _ _ _ _ | .mulRWithDual _ _ _ _ _ _ _ => 0x00000144
  | .fMulWithFAdd _ _ _ _ _ _ | .fMulWithFSub _ _ _ _ _ _ | .fMulWithFloatBy _ _ _ _ _ _
    | .fMulWithFixBy _ _ _ _ _ _ | .fMulWithFAvg _ _ _ _ _ _ | .fMulWithFAbs _ _ _ _ _
    | .fMulWithFMax _ _ _ _ _ _ | .fMulWithFMin _ _ _ _ _ _ | .fMulWithDual _ _ _ _ _ _ _ => 0x000003A3

/-- `u` agrees with `t` on every data register but the listed ones, named through the banks selected in `s`. -/
def sameRegsBut (s t u : State) (l : List Reg) : Prop :=
  ∀ k : Fin 32, (∀ n ∈ l, regIdx s n ≠ k) → u.rf.get k = t.rf.get k

/-- Every byte of memory reads the same. -/
def sameMemory (s u : State) : Prop := ∀ k, u.mem.read k = s.mem.read k

/-! Fixed-point results over the integers. -/

/-- An ALU result in Rn with its flags: AF and AI are 0 (R171); `sticky` for STKY. -/
def fixedEffect (n : Reg) (r : W32) (av ac as : Bool) (sticky : W32) : Effect :=
  ⟨[(n, put32 r)], none, ⟨aluMask, flagBit 0 (r == 0) ||| flagBit 1 av ||| flagBit 2 (decide (r.toInt < 0)) |||
    flagBit 3 ac ||| flagBit 4 as, sticky⟩⟩

/-- The exact sum `z` does not fit 32 bits. -/
def wide32 (z : Int) : Bool := decide (z < -2 ^ 31 ∨ 2 ^ 31 ≤ z)

/-- The word written for the exact sum `z` (R172): modulo 2^32, or the nearer end of the range under ALUSAT. -/
def sumWord (s : State) (z : Int) : W32 :=
  if wide32 z ∧ alusat s = true then (if z < 0 then 0x80000000 else 0x7FFFFFFF) else BitVec.ofInt 32 z

/-- What an operation with exact signed result `z` and carry out `carry` leaves (R172, R173). -/
def sumEffect (s : State) (n : Reg) (z : Int) (carry : Bool) : Effect :=
  fixedEffect n (sumWord s z) (wide32 z) carry false (if wide32 z then 0x00000004 else 0)

/-- The sum in `a` and the difference in `d` of one dual add/subtract: the flags of the two ORed (R370). -/
def dualSums (s : State) (a d : Reg) (x y : W32) : Effect :=
  let p := sumEffect s a (x.toInt + y.toInt) (decide (2 ^ 32 ≤ x.toNat + y.toNat))
  let q := sumEffect s d (x.toInt - y.toInt) (decide (y.toNat ≤ x.toNat))
  ⟨p.regs ++ q.regs, none, ⟨aluMask, p.flags.val ||| q.flags.val, p.flags.sticky ||| q.flags.sticky⟩⟩

/-- The carry input as a number. -/
def carryNum (s : State) : Nat := if carryIn s then 1 else 0

/-- Half of `z`, an odd `z` to the even neighbour or, truncated, down (R177). -/
def halved (truncate : Bool) (z : Int) : Int :=
  if truncate = false ∧ z % 2 = 1 ∧ (z / 2) % 2 = 1 then z / 2 + 1 else z / 2

/-! Floating-point values as rationals. -/

/-- The value of a finite operand. -/
def Fin2.rat (v : Fin2) : ℚ := (if v.neg then -1 else 1) * (v.m : ℚ) * (2 : ℚ) ^ v.e

/-- The distance of `q * 2^e` from the value `m * 2^k`. -/
def roundError (q : Nat) (e : Int) (m : Nat) (k : Int) : ℚ := |(q : ℚ) * (2 : ℚ) ^ e - (m : ℚ) * (2 : ℚ) ^ k|

/-- What an invalid floating-point operation leaves in Fn: NAN1, AI and AIS, with AZ, AV and AN 0 (R215). -/
def nanEffect (s : State) (n : Reg) (as : Bool) : Effect :=
  ⟨[(n, nan1 s)], none, ⟨aluMask, flagBit 4 as ||| flagBit 5 true ||| flagBit 10 true, 0x00000020⟩⟩

/-- An ALU result word in Fn that needed no rounding (R216). -/
def wordEffect (n : Reg) (w : W40) (av as : Bool) : Effect :=
  ⟨[(n, w)], none, ⟨aluMask, flagBit 0 (isZero w) ||| flagBit 1 av ||| flagBit 2 (fSign w) ||| flagBit 4 as |||
    flagBit 10 true, flagBit 1 av⟩⟩

/-- A delivered ALU result in Fn (R214, R216): AUS with underflow, AVS with overflow. -/
def deliveredEffect (n : Reg) (d : Delivered) : Effect :=
  ⟨[(n, d.word)], none, ⟨aluMask, flagBit 0 (isZero d.word) ||| flagBit 1 d.ovf ||| flagBit 2 (fSign d.word) |||
    flagBit 10 true, flagBit 0 d.unf ||| flagBit 1 d.ovf⟩⟩

/-- A fixed-point result of a floating-point ALU operation in Rn. -/
def integerEffect (n : Reg) (r : W32) (av an as ai : Bool) (sticky : W32) : Effect :=
  ⟨[(n, put32 r)], none, ⟨aluMask, flagBit 0 (r == 0) ||| flagBit 1 av ||| flagBit 2 an ||| flagBit 4 as |||
    flagBit 5 ai ||| flagBit 10 true, sticky⟩⟩

/-- The rounding of this instruction. -/
def delivered (s : State) (z : Fin2) : Delivered := deliver (trunc s) (resultBits s) z

/-- The value with its sign changed. -/
def Fin2.negated (v : Fin2) : Fin2 := { v with neg := !v.neg }

/-! The multiplier over the integers. -/

/-- The exact product of two inputs in a format (R262): doubled when both are signed and the format is fractional. -/
def exactProduct (md : MulMod) (x y : W32) : Int :=
  let a : Int := if md.sx = .s then x.toInt else x.toNat
  let b : Int := if md.sy = .s then y.toInt else y.toNat
  if md.fmt ≠ .i ∧ md.sx = .s ∧ md.sy = .s then 2 * (a * b) else a * b

/-- MN, MV and MU of an 80-bit result (R264), with MOS and MUS: overflow and underflow read off its value. -/
def productFlags (uns int : Bool) (a : W80) : FlagOut :=
  let mv : Bool := if uns then decide ((if int then 2 ^ 32 else 2 ^ 64) ≤ a.toNat)
    else decide (a.toInt < -(if int then 2 ^ 31 else 2 ^ 63) ∨ (if int then 2 ^ 31 else 2 ^ 63) ≤ a.toInt)
  let small : Bool := if uns then decide (a.toNat < 2 ^ 32) else decide (-2 ^ 32 ≤ a.toInt ∧ a.toInt < 2 ^ 32)
  let mu : Bool := !int && small && decide (a.toNat % 2 ^ 32 ≠ 0)
  ⟨mulMask, flagBit 6 (decide (a.toInt < 0)) ||| flagBit 7 mv ||| flagBit 8 mu, flagBit 6 mv ||| flagBit 8 mu⟩

/-- The 32 bits of an 80-bit result that go to a register (R263). -/
def resultField (int : Bool) (a : W80) : W32 := BitVec.ofNat 32 (if int then a.toNat else a.toNat / 2 ^ 32)

/-- A fixed-point multiplier result in Rn. -/
def productToReg (n : Reg) (uns int : Bool) (a : W80) : Effect :=
  ⟨[(n, put32 (resultField int a))], none, productFlags uns int a⟩

/-- A fixed-point multiplier result in MRF or MRB. -/
def productToMr (s : State) (back uns int : Bool) (a : W80) : Effect :=
  ⟨[], some (mrIdx s back, a), productFlags uns int a⟩

/-- An exact value modulo 2^80, rounded when the modifier asks for it. -/
def productWord (md : MulMod) (z : Int) : W80 :=
  if md.fmt = .fr then rndMr (BitVec.ofInt 80 z) else BitVec.ofInt 80 z

/-- Both inputs are unsigned. -/
def bothUnsigned (md : MulMod) : Bool := md.sx == .u && md.sy == .u

/-- The result is an integer. -/
def isInteger (md : MulMod) : Bool := md.fmt == .i

/-- The range SAT brings a value into (R266). -/
def satBounds (md : SatMod) : Int × Int :=
  match md.sg, md.frac with
  | .s, true => (-2 ^ 63, 2 ^ 63 - 1)
  | .s, false => (-2 ^ 31, 2 ^ 31 - 1)
  | .u, true => (0, 2 ^ 64 - 1)
  | .u, false => (0, 2 ^ 32 - 1)

/-- The value of an MR register as SAT's sign letter reads it. -/
def satValue (md : SatMod) (a : W80) : Int := if md.sg = .s then a.toInt else a.toNat

/-- The saturated value (R266). -/
def saturate (md : SatMod) (a : W80) : W80 :=
  BitVec.ofInt 80 (max (satBounds md).1 (min (satBounds md).2 (satValue md a)))

/-- The multiplier's flags all 0 (R280, R290, R291). -/
def mulCleared : FlagOut := ⟨mulMask, 0, 0⟩

/-! The shifter bit by bit. -/

/-- A shifter result in Rn (R310, R312). -/
def shiftEffect (n : Reg) (r : W32) (sv : Bool) : Effect :=
  ⟨[(n, put32 r)], none, ⟨shiftMask, flagBit 11 sv ||| flagBit 12 (r == 0), 0⟩⟩

/-- A word is what the bits say. -/
def hasBits (r : W32) (f : Nat → Bool) : Prop := ∀ k < 32, r.getLsbD k = f k

/-- Bit `k` of x moved `d` places, zeros coming in. -/
def shiftedBit (x : W32) (d : Int) (k : Nat) : Bool := decide (0 ≤ (k : Int) - d) && x.getLsbD ((k : Int) - d).toNat

/-- Bit `k` of x moved `d` places, the sign coming in at the left. -/
def arithmeticBit (x : W32) (d : Int) (k : Nat) : Bool :=
  decide (0 ≤ (k : Int) - d) &&
    (if (k : Int) - d < 32 then x.getLsbD ((k : Int) - d).toNat else x.getLsbD 31)

/-- A 1 of x leaves to the left when x moves `d` places. -/
def losesOne (x : W32) (d : Int) : Bool := decide (0 < d ∧ ∃ k : Fin 32, x.getLsbD k = true ∧ 32 ≤ (k.val : Int) + d)

/-- Bit `k` of x with its `len` low bits deposited at `bit`. -/
def depositBit (x : W32) (bit len k : Nat) : Bool := decide (bit ≤ k ∧ k < bit + len) && x.getLsbD (k - bit)

/-- The same with the field's top bit copied to its left. -/
def depositSeBit (x : W32) (bit len k : Nat) : Bool :=
  if bit + len ≤ k then decide (0 < len) && x.getLsbD (len - 1) else depositBit x bit len k

/-- Bit `k` of the `len` bits of x from `bit` up. -/
def extractBit (x : W32) (bit len k : Nat) : Bool := decide (k < len) && x.getLsbD (bit + k)

/-- The same with the field's top bit copied to its left. -/
def extractSeBit (x : W32) (bit len k : Nat) : Bool :=
  if len ≤ k then decide (0 < len) && x.getLsbD (bit + len - 1) else extractBit x bit len k

/-- The number of leading bits of x equal to `b` is `k`. -/
def leads (x : W32) (b : Bool) (k : Nat) : Prop :=
  k ≤ 32 ∧ (∀ j < k, x.getLsbD (31 - j) = b) ∧ (k < 32 → x.getLsbD (31 - k) ≠ b)

/-! Universal registers and memory. -/

/-- An instruction that writes `u` may stand here, whatever its condition (R440, R449, U3): no register of the PC stack or
of the loop stacks in a delay slot, CURLCNTR not from memory at the test of an active counter-based loop. -/
def standsHere (s : State) (u : Ureg) (mem : Bool) : Bool :=
  !(inSlot s && [.pcstk, .pcstkp, .laddr, .curlcntr, .lcntr].contains u) &&
  !(mem && u == .curlcntr && (List.finRange 6).any fun k =>
    decide (k.val < s.lsp.val) && (levelAt s k).kind == 3 && s.pc + 2 == (levelAt s k).e)

/-- A move can write `u` where it stands: it is not read only; PCSTK is not written right after PCSTKP, nor PCSTKP where a
loop could end; IRPTL's reserved bits are not set. -/
def takesWrite (s : State) (u : Ureg) (v : W48) (mem : Bool) : Bool :=
  standsHere s u mem &&
  match u with
  | .faddr => false
  | .daddr => false
  | .pc => false
  | .pcstk => s.latentPcstkp.isNone
  | .pcstkp => s.lsp.val == 0 || s.pcstkp == 31
  | .sys .irptl => low32 v &&& irptlReserved == 0
  | _ => true

/-- A move can read `u`: PCSTK not right after PCSTKP was written (R596). -/
def givesRead (s : State) (u : Ureg) : Bool := u != .pcstk || s.latentPcstkp.isNone

/-- The first key and the number of the bytes a store reaches (R106, R109). -/
def storedBytes (p : Params) (sp : Space) (a : Nat) : Nat × Nat :=
  match regionOf p a with
  | .unmapped => (0, 0)
  | .iopReg => (0, 0)
  | .multiprocessor _ => (0, 0)
  | .internalShort => (halfKey (shortPlace p a).1 (shortPlace p a).2, 2)
  | .internal _ .w32 => (wordKey a + 2, 4)
  | .external .w32 => (wordKey a + 2, 4)
  | .internal _ _ => if sp = .dm then (wordKey a + 1, 5) else (wordKey a, 6)
  | .external _ => if sp = .dm then (wordKey a + 1, 5) else (wordKey a, 6)

/-- Every byte of memory reads the same, but for those a store at word address `a` reaches. -/
def sameMemoryBut (s u : State) (sp : Space) (a : Nat) : Prop :=
  ∀ k, (k < (storedBytes s.cfg sp a).1 ∨ (storedBytes s.cfg sp a).1 + (storedBytes s.cfg sp a).2 ≤ k) →
    u.mem.read k = s.mem.read k

/-! The parts of a stack instruction. -/

/-- A push or pop of both loop stacks, with room or with an entry: the contents stay; no DO UNTIL gave a pushed level its
length (R460, R461). -/
def loopPart (t : State) : StackOp → State
  | .none => t
  | .push => { t with
      lsp := t.lsp + 1
      lens := Vector.ofFn fun k => if k.val = t.lsp.val then 0 else t.lens.get k }
  | .pop => { t with lsp := t.lsp - 1 }

/-- A push or pop of the status stack, with room or with an entry; a restored register is in its effect latency, `s` being
the state before the instruction (R462, R463, R593). -/
def stsPart (s t : State) : StackOp → State
  | .none => t
  | .push => { t with sts := (withFlagIn s s.astat, s.mode1) :: t.sts }
  | .pop =>
    match t.sts with
    | [] => t
    | p :: rest => { t with
        astat := p.1 &&& ~~~flagInMask, mode1 := p.2, sts := rest
        latent := [(.mode1, s.mode1), (.astat, s.astat)] }

/-- A push or pop of the PC stack; the entry PUSH PCSTK exposes is `free` (R464, R465). -/
def pcsPart (free : A24) (t : State) : StackOp → State
  | .none => t
  | .push => pushPc t free
  | .pop => { t with pcstkp := t.pcstkp - 1 }

/-! Kinds of instructions. -/

/-- The instruction can write memory. -/
def canStore : Instr → Bool
  | .stDmPost _ _ _ _ _ => true
  | .stPmPost _ _ _ _ _ => true
  | .stDmPre _ _ _ _ _ => true
  | .stPmPre _ _ _ _ _ => true
  | .stDmAbs _ _ => true
  | .stPmAbs _ _ => true
  | .dualMove _ _ dm pm => dm.store || pm.store
  | _ => false

/-- The universal register a move, a load or a bit manipulation names as its destination. -/
def destOf : Instr → Option Ureg
  | .uregMove _ _ dst _ => some dst
  | .loadImm dst _ => some dst
  | .ldDmPost _ _ dst _ _ => some dst
  | .ldPmPost _ _ dst _ _ => some dst
  | .ldDmPre _ _ dst _ _ => some dst
  | .ldPmPre _ _ dst _ _ => some dst
  | .ldDmAbs dst _ => some dst
  | .ldPmAbs dst _ => some dst
  | .bitSet r _ => some (.sys r)
  | .bitClr r _ => some (.sys r)
  | .bitTgl r _ => some (.sys r)
  | _ => none

/-- The instruction restores ASTAT and MODE1 from the status stack or ends an interrupt routine (R436, R439, R463). -/
def restoresStatus : Instr → Bool
  | .rti _ _ _ => true
  | .jumpLa _ _ _ ci _ => ci
  | .jumpCi _ _ _ _ => true
  | .pushLoop a _ => a == .pop
  | .popLoop a _ => a == .pop
  | .popSts _ => true
  | _ => false

end Sys2Proof.Machine
end

