-- ==== Sys2Proof/Certificates/Slice0/Obligations.lean ====
section
/-! DEFINITION. The statements for the provers. `completes` and `computes` (Sys2Proof/Claims.lean) conclude that `exec`
answers a next state, and which: the sequencer's state `t`, equal to `s` outside the sequencer, with the named change. -/

section Statements

open Sys2Proof Sys2Proof.Machine

/-! The machine: reset, a step, an interrupt, the sequencer. -/

/-- R70, R71, R571: what reset leaves. IRPTL 0; of IMASK bits 31 to 2 only bit 16 set, and that when booting from
EPROM or a host; interrupts disabled; the PC stack empty; and, by the spec's own inference, the primary registers
selected, PCSTKP 0 with its empty flag, the pc at the reset vector. Choices of the model or the spec: Which vector
a boot mode gives is log entry 51; bits 1-0 of IMASK are left out (log entry 3). -/
def Obligations.ResetLeavesStatedValues : Prop :=
  ∀ p : Params,
    let s := State.resetWith p
    s.irptl = 0 ∧
    (p.bootMode = .eprom ∨ p.bootMode = .host → s.imask &&& 0xFFFFFFFC = 0x00010000) ∧
    (p.bootMode = .link ∨ p.bootMode = .noBoot → s.imask &&& 0xFFFFFFFC = 0) ∧
    bitOf s.mode1 12 = false ∧
    (∀ n, (regIdx s n).val = n.val) ∧ (mrIdx s false).val = 0 ∧
    (∀ n : Fin 8, (dag1Idx s n).val = n.val ∧ (dag2Idx s n).val = n.val) ∧
    s.pcstkp = 0 ∧ bitOf (readSreg s .stky) 22 = true ∧
    (p.bootMode ≠ .noBoot ∨ p.iivt = true → s.pc = 0x020004) ∧
    (p.bootMode = .noBoot → p.iivt = false → s.pc = 0x400004) ∧
    validRequest s = none

/-- The reset state meets the three invariants below, whatever the parameters. Choices of the model or the spec: The
invariants are the model's own: the canonical form (log entry 4), and what is stored of the status registers (log
entries 30, 50). -/
def Obligations.ResetMeetsInvariants : Prop :=
  ∀ p : Params,
    memoryCanonical (State.resetWith p) = true ∧ interruptsConsistent (State.resetWith p) = true ∧
      statusStored (State.resetWith p) = true

/-- A step with no entry, no wait and no end of the run fetches the six bytes at the pc and runs the instruction they
decode to, by the parameter Decode or else the model's layout: `step` is `exec` of it, then one timer tick; a
fault or a refusal of `exec` is the step's. R104, R111, R121, R150: it stops at a word written since boot, at an
unmapped address, at one that does not hold 48-bit words, at a word with nothing in it, and at a word that is no
instruction. `s` is the state after the environment's part of the boundary and the latching of arithmetic
requests. Choices of the model or the spec: The order at the boundary is log entry 39, the decoder's layout and
the parameter Decode log entry 1; the faults are the spec's decisions D5, D7, D8, D18. -/
def Obligations.StepRunsDecodedInstruction : Prop :=
  ∀ s₀ s : State, s = latchArithmetic (holdRequest (envStep s₀)) →
    entryNow (envStep s₀) = none → s.idle = none → runIsOver s = false →
    (s.dirty.contains s.pc.toNat = true → step s₀ = .refused .selfModifiedCode) ∧
    (s.dirty.contains s.pc.toNat = false →
      (regionOf s.cfg s.pc.toNat = .unmapped → step s₀ = .fault .unmapped) ∧
      (regionOf s.cfg s.pc.toNat ≠ .unmapped → (∀ b, regionOf s.cfg s.pc.toNat ≠ .internal b .w48) →
        regionOf s.cfg s.pc.toNat ≠ .external .w48 → step s₀ = .fault .notInstructionWord) ∧
      ∀ b : Fin 2, regionOf s.cfg s.pc.toNat = .internal b .w48 ∨ regionOf s.cfg s.pc.toNat = .external .w48 →
        (s.mem.readBytes (wordKey s.pc.toNat) 6 = none → step s₀ = .fault .unwrittenMemory) ∧
        ∀ n, s.mem.readBytes (wordKey s.pc.toNat) 6 = some n →
          let w := BitVec.ofNat 48 n
          (∀ i, s.cfg.decodes.lookup w = some (some i) ∨ (s.cfg.decodes.lookup w = none ∧ decode w = .ok i) →
            (∀ t, exec i s = .next t → step s₀ = .next (timerTick s t)) ∧
            (∀ f, exec i s = .fault f → step s₀ = .fault f) ∧
            (∀ r, exec i s = .refused r → step s₀ = .refused r)) ∧
          (s.cfg.decodes.lookup w = some none ∨ (s.cfg.decodes.lookup w = none ∧ ∃ e, decode w = .error e) →
            step s₀ = .fault .illegalInstruction))

/-- R510, R516: entering interrupt `b` pushes the return address (below the almost-full mark), pushes ASTAT and MODE1
for bits 4 to 8 and 23, clears IRPTL[b], sets IMASKP[b] and goes to the vector at 4 * b; every other register and
all of memory stay. Choices of the model or the spec: The status-stack bits 4 and 23 are the spec's inference
(R516); the return address after IDLE is log entry 43, the order at the boundary log entry 39. -/
def Obligations.StepEntersInterrupt : Prop :=
  ∀ (s₀ : State) (b : Nat), entryNow (envStep s₀) = some b →
    let s := latchArithmetic (envStep s₀)
    s.pcstkp.toNat < 28 → (pushesStatus b = true → s.sts.length < s.cfg.stsDepth) →
    ∃ t, step s₀ = .next t ∧
      t.pcstkp = s.pcstkp + 1 ∧ pcTop t = some (entryReturn s) ∧
      (∀ k : Fin 30, k.val ≠ s.pcstkp.toNat → t.pcs.get k = s.pcs.get k) ∧
      t.sts = (if b = 4 ∨ b = 5 ∨ b = 6 ∨ b = 7 ∨ b = 8 ∨ b = 23 then (readSreg s .astat, s.mode1) :: s.sts else s.sts) ∧
      t.irptl = s.irptl &&& ~~~bitMask b ∧ t.imaskp = s.imaskp ||| bitMask b ∧
      t.pc = ivtBase s.cfg + BitVec.ofNat 24 (4 * b) ∧
      t = { s with
        pcs := t.pcs, endCalls := t.endCalls, pcstkp := t.pcstkp, sts := t.sts, irptl := t.irptl, imaskp := t.imaskp, pc := t.pc
        idle := none, justEntered := true, nonSeq := 2, latentPcstkp := none, irqHeld := 0
        drawn := t.drawn } ∧
      sameMemory s t

/-- R507: the arithmetic requests: FIXI (bit 24) from AOS and MOS, FLTOI (25) from AVS and MVS, FLTUI (26) from AUS
and MUS, FLTII (27) from AIS and MIS, each while its routine is not in service; nothing else is latched and
nothing else changes. R505, R506, R514, R520, R522: which interrupt is entered. It is latched and unmasked, no
unmasked latched one has a lower number, IRPTEN is 1, in service only a strictly higher priority gets in and only
under NESTM, and no delayed branch, short loop or earlier entry is open; and such a request is entered once it has
waited the boundaries IRQ_DELAY_MAX allows. Choices of the model or the spec: The wait for requests while IRPTL,
IMASK, IMASKP or MODE1 is in its effect latency, and IRQ_DELAY_MAX, are the spec's decision (R514, D14). -/
def Obligations.EnteredInterruptIsValid : Prop :=
  (∀ (s : State) (k : Nat), k < 32 →
    let y := effStky s
    latchArithmetic s = { s with irptl := (latchArithmetic s).irptl } ∧ (s.latent = [] → y = s.stky) ∧
    (bitOf (latchArithmetic s).irptl k = true ↔ bitOf s.irptl k = true ∨ (bitOf s.imaskp k = false ∧
      ((k = 24 ∧ (bitOf y 2 = true ∨ bitOf y 6 = true)) ∨ (k = 25 ∧ (bitOf y 1 = true ∨ bitOf y 7 = true)) ∨
        (k = 26 ∧ (bitOf y 0 = true ∨ bitOf y 8 = true)) ∨ (k = 27 ∧ (bitOf y 5 = true ∨ bitOf y 9 = true)))))) ∧
  (∀ (s : State) (b : Nat), b < 32 → b ≠ 1 → bitOf s.irptl b = true → bitOf s.imask b = true →
    (∀ k < b, k ≠ 1 → ¬(bitOf s.irptl k = true ∧ bitOf s.imask k = true)) → bitOf s.mode1 12 = true →
    (∀ k < 32, bitOf s.imaskp k = true → b < k ∧ bitOf s.mode1 11 = true) →
    s.dbr = none → s.tail = none → s.justEntered = false →
    (∀ r ∈ s.latent, r.1 ≠ .irptl ∧ r.1 ≠ .imask ∧ r.1 ≠ .imaskp ∧ r.1 ≠ .mode1) →
    s.cfg.irqDelayMax ≤ s.irqHeld → entryNow s = some b) ∧
  ∀ (s : State) (b : Nat), entryNow s = some b →
    b < 32 ∧ bitOf s.irptl b = true ∧ bitOf s.imask b = true ∧ b ≠ 1 ∧ bitOf s.mode1 12 = true ∧
    (∀ k < 32, bitOf s.imaskp k = true → b < k ∧ bitOf s.mode1 11 = true) ∧
    (∀ k < b, k ≠ 1 → ¬(bitOf s.irptl k = true ∧ bitOf s.imask k = true)) ∧
    s.dbr = none ∧ s.tail = none ∧ s.justEntered = false ∧
    ∀ r ∈ s.latent, r.1 ≠ .irptl ∧ r.1 ≠ .imask ∧ r.1 ≠ .imaskp ∧ r.1 ≠ .mode1

/-- R467, R540: waiting in IDLE, a step with no entry changes nothing but the timer (with its interrupts) and what the
passing of a boundary changes. Choices of the model or the spec: That the pc stays is log entry 43, the tick of
the timer log entry 38. -/
def Obligations.IdleStepWaits : Prop :=
  ∀ (s₀ s : State) (a : A24), s = latchArithmetic (holdRequest (envStep s₀)) →
    entryNow (envStep s₀) = none → s.idle = some a →
    ∃ t, step s₀ = .next t ∧
      t = { s with
        latent := [], latentPcstkp := none, drawn := s.drawn + 1
        tcount := t.tcount, irptl := t.irptl } ∧
      (bitOf (effMode2 s) 5 = false → t.tcount = s.tcount ∧ t.irptl = s.irptl) ∧
      (bitOf (effMode2 s) 5 = true → s.tcount ≠ 0 → t.tcount = s.tcount - 1 ∧ t.irptl = s.irptl) ∧
      (bitOf (effMode2 s) 5 = true → s.tcount = 0 →
        t.tcount = s.tperiod ∧ t.irptl = s.irptl ||| (0x00800010 &&& ~~~s.imaskp))

/-- R33, R430, R446: the sequencer of an instruction always answers when no loop end can lack its stack entries, and
it changes only its own state. At the end of a loop (its last three instructions) it refuses when a loop around it
ends at the same address, or, where that is not counter-based, less than two addresses after it (R449, R599).
Outside loops the next address is the pc plus one modulo 2^24, but after the second slot of a delayed branch it is
the branch's target. Choices of the model or the spec: What passes at each instruction (latencies, the step's
number) is the model's, log entries 9 and 18; where the refusal stands is log entry 23. -/
def Obligations.SequencerAnswers : Prop :=
  ∀ s : State,
    (flowReady s = true →
      ∃ t, sequenced s = .ok t ∧ t = sequencedTo s t ∧ t.latent = [] ∧ t.latentPcstkp = none ∧ t.drawn = s.drawn + 1) ∧
    (∀ (l : Level) (k : Fin 6), loopTop s = some l → k.val + 1 < s.lsp.val →
      (s.pc = l.e ∨ s.pc + 1 = l.e ∨ s.pc + 2 = l.e) →
      ((levelAt s k).e = l.e ∨ ((levelAt s k).kind = 0 ∧ (levelAt s k).e.toNat < l.e.toNat + 2)) →
      sequenced s = .error (.refuse .nestedLoopEnds)) ∧
    (s.lsp.val = 0 → s.tail = none →
      ∃ t, sequenced s = .ok t ∧ t = sequencedTo s t ∧ t.lsp = s.lsp ∧ t.pcstkp = s.pcstkp ∧ t.lcs = s.lcs ∧
        (s.dbr = none → t.pc = s.pc + 1 ∧ t.dbr = none) ∧
        (∀ j, s.dbr = some ⟨j, true⟩ → t.pc = s.pc + 1 ∧ t.dbr = some ⟨j, false⟩) ∧
        (∀ j, s.dbr = some ⟨j, false⟩ → t.pc = j ∧ t.dbr = none))

/-- R445, R446, R451: a counter-based loop of three or more instructions. At e - 2 the counter counts down, and at 1
the loop and PC stacks are popped; at e with the loop still stacked the next address is the top of the PC stack;
elsewhere the loop is left alone. Choices of the model or the spec: That the count ends at 1 is the spec's
decision (R451, D10). -/
def Obligations.CountedLoopFlow : Prop :=
  ∀ (s : State) (l : Level), loopTop s = some l → l.kind = 3 → flowReady s = true → s.tail = none → s.dbr = none →
    ∃ t, sequenced s = .ok t ∧ t = sequencedTo s t ∧
      (s.pc + 2 = l.e → ∀ k : Fin 7, t.lcs.get k = if k.val + 1 = s.lsp.val then l.count - 1 else s.lcs.get k) ∧
      (s.pc + 2 = l.e → l.count ≠ 1 → t.lsp = s.lsp ∧ t.pcstkp = s.pcstkp ∧ t.pc = s.pc + 1) ∧
      (s.pc + 2 = l.e → l.count = 1 → t.lsp.val + 1 = s.lsp.val ∧ t.pcstkp = s.pcstkp - 1) ∧
      (s.pc = l.e → t.lsp = s.lsp ∧ t.pcstkp = s.pcstkp ∧ t.lcs = s.lcs ∧ some t.pc = pcTop s) ∧
      (s.pc + 2 ≠ l.e → s.pc ≠ l.e → t.lsp = s.lsp ∧ t.pcstkp = s.pcstkp ∧ t.lcs = s.lcs ∧ t.pc = s.pc + 1)

/-- R445 to R448: a loop that is not counter-based, at its test: at e - 2 for three or more instructions, at e for one
or two. The condition of the state at the start decides whether the stacks are popped; the loop counters stay; a
loop of one or two instructions then makes two passes more or one. A counter-based loop of one or two instructions
counts at e: at 3 (one instruction) or 2 (two) the stacks are popped and two passes follow or one; at 1 they are
popped and it goes on; else it loops back. A short loop running out loops back while passes are left, then goes on
after its end. Choices of the model or the spec: How a loop's length is kept is log entry 18; what a finished
short loop leaves in its counter is log entry 19. -/
def Obligations.ConditionAndShortLoopFlow : Prop :=
  ∀ s : State, s.dbr = none →
    (∀ (l : Level) (n : Nat), loopTop s = some l → l.kind = 0 → flowReady s = true → s.tail = none →
      (l.len = n ∧ n ≠ 0 ∨ (l.len = 0 ∧ ∃ top, pcTop s = some top ∧ n = (l.e - top).toNat + 1)) →
      ∃ t, sequenced s = .ok t ∧ t = sequencedTo s t ∧ t.lcs = s.lcs ∧
        (3 ≤ n → s.pc + 2 = l.e →
          (terminates s l.count l.term = false → t.lsp = s.lsp ∧ t.pcstkp = s.pcstkp ∧ t.pc = s.pc + 1) ∧
          (terminates s l.count l.term = true → t.lsp.val + 1 = s.lsp.val ∧ t.pcstkp = s.pcstkp - 1)) ∧
        (n ≤ 2 → s.pc = l.e → some t.pc = pcTop s ∧
          (terminates s l.count l.term = false → t.lsp = s.lsp ∧ t.pcstkp = s.pcstkp ∧ t.tail = none) ∧
          (terminates s l.count l.term = true → t.lsp.val + 1 = s.lsp.val ∧ t.pcstkp = s.pcstkp - 1 ∧
            t.tail = some ⟨l.e, t.pc, if n = 1 then 1 else 0, false⟩))) ∧
    (∀ l : Level, loopTop s = some l → l.kind = 1 ∨ l.kind = 2 → flowReady s = true → s.tail = none → s.pc = l.e →
      ∃ t, sequenced s = .ok t ∧ t = sequencedTo s t ∧
        (∀ k : Fin 7, k.val + 1 ≠ s.lsp.val → t.lcs.get k = s.lcs.get k) ∧
        (l.count = (if l.kind = 1 then 3 else 2) → t.lsp.val + 1 = s.lsp.val ∧ t.pcstkp = s.pcstkp - 1 ∧
          some t.pc = pcTop s ∧ t.tail = some ⟨l.e, t.pc, if l.kind = 1 then 1 else 0, true⟩) ∧
        (l.count = 1 → t.lsp.val + 1 = s.lsp.val ∧ t.pcstkp = s.pcstkp - 1 ∧ t.tail = none ∧
          (s.lsp.val = 1 → t.pc = s.pc + 1)) ∧
        (l.count ≠ (if l.kind = 1 then 3 else 2) → l.count ≠ 1 → t.lsp = s.lsp ∧ t.pcstkp = s.pcstkp ∧ t.tail = none ∧
          some t.pc = pcTop s ∧ ∀ k : Fin 7, k.val + 1 = s.lsp.val → t.lcs.get k = l.count - 1)) ∧
    (∀ x : Tail, s.tail = some x → s.pc = x.e → s.lsp.val = 0 →
      ∃ t, sequenced s = .ok t ∧ t = sequencedTo s t ∧
        (0 < x.more → t.pc = x.b ∧ t.tail = some { x with more := x.more - 1 }) ∧
        (x.more = 0 → t.pc = s.pc + 1 ∧ t.tail = none))

/-! Encoding. -/

/-- Decoding an encoded well-formed instruction gives it back, for every instruction and every operand. Choices of the
model or the spec: The words are the model's own layout (log entry 1): the spec gives no encoding (R141). -/
def Obligations.DecodeOfEncode : Prop := ∀ i : Instr, i.wf = true → decode (encode i) = .ok i

/-- Every accepted word is the encoding of the instruction it decodes to, so each instruction is decoded from at most
one word. Choices of the model or the spec: The words are the model's own layout (log entry 1). -/
def Obligations.EncodeOfDecode : Prop := ∀ (w : W48) (i : Instr), decode w = .ok i → encode i = w

/-- Words of each class of instruction, written out field by field: a computation alone and under a condition, a
register move and a load through DAG1 with a computation beside them, a store through DAG2, an immediate load, a
direct load, the two-move form, a jump, a call, a return, a loop, a system register bit instruction, stack
operations and NOP; and two words that are no instruction. Choices of the model or the spec: The words are the
model's own layout (log entry 1). -/
def Obligations.WordsDecodeAsWritten : Prop :=
  decode 0x000032100C03#48 = .ok (.rAdd 1 2 3) ∧
  decode 0x000642019E07#48 = .ok (.compute .nbm (.rAdd 1 2 3)) ∧
  decode 0x194999080602#48 = .ok (.uregMove .eq (some (.rAdd 1 2 3)) (.dag1 .i 3) (.sys .astat)) ∧
  decode 0x6A10C84033E1#48 = .ok (.ldDmPost .tru (some (.rAdd 1 2 3)) (.r 4) 5 6) ∧
  decode 0x6A1000003C3D#48 = .ok (.stPmPre .lt none 6 5 (.r 4)) ∧
  decode 0x6F56DF77990B#48 = .ok (.loadImm (.dag1 .m 1) 0xDEADBEEF) ∧
  decode 0x091A2B3C040F#48 = .ok (.ldDmAbs (.r 4) 0x12345678) ∧
  decode 0xCD68A0C84030#48 = .ok (.dualMove .tru (some (.rAdd 1 2 3)) ⟨false, 4, 1, 2⟩ ⟨true, 5, 3, 6⟩) ∧
  decode 0x000080402F1F#48 = .ok (.jumpAbs .lce 0x020100 true none) ∧
  decode 0x0F8C84033037#48 = .ok (.callRel .ne (-2) true (some (.rAdd 1 2 3))) ∧
  decode 0x000C84033F3F#48 = .ok (.rts .tru true (some (.rAdd 1 2 3))) ∧
  decode 0x001E02010773#48 = .ok (.doCountImm 30 ⟨0x020107, .lce⟩) ∧
  decode 0x08000100007B#48 = .ok (.bitSet .mode1 0x80001000) ∧
  decode 0x00000000098F#48 = .ok (.pushLoop .push .pop) ∧
  decode 0x0000000000AF#48 = .ok .nop ∧
  decode 0x0000000001AF#48 = .error .reservedBits ∧
  decode 0x0000000000B3#48 = .error .unusedCode

/-! Memory. -/

/-- R106, R109: a stored word reads back over either bus: 32-bit words keep bits 47-16, 40-bit data keep bits 47-8,
and PX over the PM bus keeps all 48; a short word reads back with zeros or copies of its sign above it. PX over
the PM bus gets the 40 bits of a 32-bit or a short word, and below them a byte that no rule states. R110: what was
stored with 40 bits is not read with 48, nor the other way. Every byte outside the stored ones reads as before.
Choices of the model or the spec: The widths of the regions are parameters (log entry 5); the low byte is log
entry 46, that of a word of 32 or 16 bits in PX log entry 12; short words in wider words are log entry 57, the
refusal of another width is the spec's decision D4 (log entry 58). -/
def Obligations.WordsReadAsStored : Prop :=
  ∀ (s t : State) (sp bus : Space) (full : Bool) (a : Nat) (v : W48), writeWord s sp full a v = .ok t →
    (full = true → sp = .pm) →
    (∀ (b : Fin 2) (w : WordWidth), regionOf s.cfg a = .internal b w ∨ regionOf s.cfg a = .external w →
      (w = .w32 → readWord t bus false a = .ok (bus32 (low32 v)) ∧
        ∃ rest : BitVec 8, readWord t .pm true a = .ok (low40 (bus32 (low32 v)) ++ rest)) ∧
      (w ≠ .w32 → full = false → readWord t bus false a = .ok (bus40 (low40 v)) ∧
        readWord t .pm true a = .error (.refuse .widthMismatch)) ∧
      (w ≠ .w32 → full = true → readWord t .pm true a = .ok v ∧
        readWord t bus false a = .error (.refuse .widthMismatch))) ∧
    (regionOf s.cfg a = .internalShort →
      let h := bus32 (if sse t then ((low32 v).extractLsb' 0 16).signExtend 32
        else ((low32 v).extractLsb' 0 16).setWidth 32)
      readWord t bus false a = .ok h ∧ ∃ rest : BitVec 8, readWord t .pm true a = .ok (low40 h ++ rest)) ∧
    sameMemoryBut s t sp a

/-! Invariants that every step keeps, from every state that meets them. -/

/-- Memory and the two lists of written words stay in canonical form. Choices of the model or the spec: The form is
the model's representation (log entries 4, 49, 58). -/
def Obligations.StepKeepsMemoryCanonical : Prop :=
  ∀ s t : State, memoryCanonical s = true → step s = .next t → memoryCanonical t = true

/-- R9, R42, R50, R52, R518, R519: every step keeps these: no interrupt in service is latched, no reserved bit of
IRPTL is set, the status stack holds at most STS_DEPTH pairs; ASTAT and STKY never store the bits that follow the
flag inputs and the stacks; the open parameters stay. Choices of the model or the spec: Which bits are stored is
the model's choice (log entry 50), the depth of the status stack a parameter (D17). -/
def Obligations.StepKeepsStatusConsistent : Prop :=
  ∀ s t : State, step s = .next t →
    (interruptsConsistent s = true → interruptsConsistent t = true) ∧
    (statusStored s = true → statusStored t = true) ∧ t.cfg = s.cfg

/-! Rules of the whole machine, over every instruction. -/

/-- R21: MODE1 bit 10 (SRRFL) selects the set of R0 to R7 and bit 7 (SRRFH) that of R8 to R15, by their effective
values; the registers of a set that is not selected keep their contents, whatever the instruction. -/
def Obligations.UnselectedBankUntouched : Prop :=
  (∀ (s : State) (n : Reg), reg s n = s.rf.get (regIdx s n) ∧ (regIdx s n).val =
    n.val + if bitOf (effMode1 s) (if n.val < 8 then 10 else 7) = true then 16 else 0) ∧
  ∀ (i : Instr) (s t : State), exec i s = .next t →
    ∀ k : Fin 32, (∀ n : Reg, regIdx s n ≠ k) → t.rf.get k = s.rf.get k

/-- Only a store changes memory: every byte reads the same after any other instruction. Choices of the model or the
spec: Which instructions can store is read off their forms (R393 to R397); `dirty` is the model's own record (log
entry 49). -/
def Obligations.OnlyStoresWriteMemory : Prop :=
  ∀ (i : Instr) (s t : State), canStore i = false → exec i s = .next t → sameMemory s t ∧ t.dirty = s.dirty ∧ t.rewidth = s.rewidth

/-- R52, R510, R517, R523: a sticky flag stays 1 through every instruction that does not write STKY; IMASK, MODE1 and
IMASKP change only by an explicit write, and MODE1 and IMASKP besides by the instructions that restore the status
stack or end a routine. Choices of the model or the spec: The list of restoring instructions is read from R439,
R463 and R517. -/
def Obligations.ControlBitsChangeOnlyExplicitly : Prop :=
  ∀ (i : Instr) (s t : State), exec i s = .next t →
    (destOf i ≠ some (.sys .stky) → s.stky &&& ~~~t.stky = 0) ∧
    (destOf i ≠ some (.sys .imask) → t.imask = s.imask) ∧
    (destOf i ≠ some (.sys .mode1) → restoresStatus i = false → t.mode1 = s.mode1) ∧
    (destOf i ≠ some (.sys .imaskp) → restoresStatus i = false → t.imaskp = s.imaskp)

/-- R51, R57: what a computation alone leaves unchanged. Only its own data registers, its MR register, its own bits of
ASTAT and its own sticky bits can change, beside the sequencer's state; every byte of memory reads the same. -/
def Obligations.ComputationFrame : Prop :=
  ∀ (c : Compute) (s u : State), exec (Instr.ofCompute c) s = .next u →
    u = { sequencedTo s u with rf := u.rf, mr := u.mr, astat := u.astat, stky := u.stky } ∧
    sameRegsBut s s u (destsOf c) ∧
    (∀ k : Fin 2, (∀ b, mrDestOf c = some b → mrIdx s b ≠ k) → u.mr.get k = s.mr.get k) ∧
    u.astat &&& ~~~flagMaskOf c = s.astat &&& ~~~flagMaskOf c ∧
    s.stky &&& ~~~u.stky = 0 ∧ u.stky &&& ~~~(s.stky ||| stickyMaskOf c) = 0 ∧
    sameMemory s u

/-- Every well-formed computation runs, alone or under a true condition, and does the same in both forms; under a
false condition only the sequencer moves (R147). -/
def Obligations.ComputationsComplete : Prop :=
  ∀ (c : Compute) (s : State), c.wf = true → flowReady s = true →
    ∃ e, computeEffect c s = .ok e ∧ computes (Instr.ofCompute c) s e ∧
      ∀ cond, mayTest cond s = true →
        (condition s cond = true → computes (.compute cond c) s e) ∧
        (condition s cond = false → completes (.compute cond c) s id)

/-- R23, R25, R51, R52: how a computation's results land. Its data registers, however many, take their values, of
several for one register the last, the other registers stay, its MR register takes its value, the masked ASTAT
bits take theirs and STKY only gains bits; nothing else changes. Choices of the model or the spec: Which of two
results is later follows from their units (R25). -/
def Obligations.EffectLands : Prop :=
  ∀ (s t : State) (l : List (Reg × W40)) (mr : Option (Fin 2 × W80)) (mask val sticky : W32),
    let u := applyEffect s t ⟨l, mr, ⟨mask, val, sticky⟩⟩
    u = { t with rf := u.rf, mr := u.mr, astat := u.astat, stky := u.stky } ∧
    (∀ (l₁ l₂ : List (Reg × W40)) (n : Reg) (v : W40), l = l₁ ++ (n, v) :: l₂ → (∀ p ∈ l₂, p.1 ≠ n) →
      u.rf.get (regIdx s n) = v) ∧
    sameRegsBut s t u (l.map Prod.fst) ∧
    (mr = none → u.mr = t.mr) ∧
    (∀ (k : Fin 2) (a : W80), mr = some (k, a) → u.mr.get k = a ∧ ∀ j, j ≠ k → u.mr.get j = t.mr.get j) ∧
    (∀ j < 32, u.astat.getLsbD j = if mask.getLsbD j then val.getLsbD j else t.astat.getLsbD j) ∧
    (∀ j < 32, u.stky.getLsbD j = (t.stky.getLsbD j || sticky.getLsbD j))

/-- R172 to R176, R179 to R183: the sums, over the integers. The word is the exact result modulo 2^32, saturated under
ALUSAT; AV says that the exact result does not fit; AC is the carry out (for a difference: no borrow). Choices of
the model or the spec: R179 to R183 are the spec's general knowledge, AZ and AN of the saturated word its decision
D11. -/
def Obligations.FixedSumResults : Prop :=
  ∀ (s : State) (n x y : Reg), flowReady s = true →
    let a := regFx s x
    let b := regFx s y
    let c := carryNum s
    computes (.rAdd n x y) s (sumEffect s n (a.toInt + b.toInt) (decide (2 ^ 32 ≤ a.toNat + b.toNat))) ∧
    computes (.rSub n x y) s (sumEffect s n (a.toInt - b.toInt) (decide (b.toNat ≤ a.toNat))) ∧
    computes (.rAddCi n x y) s (sumEffect s n (a.toInt + b.toInt + c) (decide (2 ^ 32 ≤ a.toNat + b.toNat + c))) ∧
    computes (.rSubCi n x y) s (sumEffect s n (a.toInt - b.toInt + c - 1) (decide (b.toNat < a.toNat + c))) ∧
    computes (.rPlusCi n x) s (sumEffect s n (a.toInt + c) (decide (2 ^ 32 ≤ a.toNat + c))) ∧
    computes (.rPlusCiLess1 n x) s (sumEffect s n (a.toInt + c - 1) (decide (0 < a.toNat + c))) ∧
    computes (.rInc n x) s (sumEffect s n (a.toInt + 1) (decide (2 ^ 32 ≤ a.toNat + 1))) ∧
    computes (.rDec n x) s (sumEffect s n (a.toInt - 1) (decide (0 < a.toNat))) ∧
    computes (.rNeg n x) s (sumEffect s n (-a.toInt) (decide (a.toNat = 0)))

/-- R185 to R191: pass, the logical operations, minimum and maximum (signed) of the 32-bit inputs. The result is
written with its eight low bits zero; AZ and AN follow it, every other ALU flag becomes 0, no sticky bit is set. -/
def Obligations.FixedLogicResults : Prop :=
  ∀ (s : State) (n x y : Reg), flowReady s = true →
    let a := regFx s x
    let b := regFx s y
    let leaves := fun (r : W32) => (⟨[(n, r ++ (0 : BitVec 8))], none,
      ⟨0x0000043F, (if r = 0 then 0x00000001 else 0) ||| (if r.getLsbD 31 then 0x00000004 else 0), 0⟩⟩ : Effect)
    computes (.rPass n x) s (leaves a) ∧
    computes (.rAnd n x y) s (leaves (a &&& b)) ∧
    computes (.rOr n x y) s (leaves (a ||| b)) ∧
    computes (.rXor n x y) s (leaves (a ^^^ b)) ∧
    computes (.rNot n x) s (leaves (~~~a)) ∧
    computes (.rMin n x y) s (leaves (BitVec.ofInt 32 (min a.toInt b.toInt))) ∧
    computes (.rMax n x y) s (leaves (BitVec.ofInt 32 (max a.toInt b.toInt)))

/-- R177, R178, R184, R192: the absolute value with AS and overflow, the average over the integers, CLIP, and COMP
(signed), which shifts CACC and writes no register. Where the magnitude of Ry is not representable (Ry = 0x8000
0000) CLIP's word is a free value and its flags follow it. Choices of the model or the spec: R177, R192 and parts
of R178 and R184 are the spec's general knowledge; CLIP's free corner is log entry 36. The average, CLIP and COMP
stand where the parameter Numerics names no other results (log entry 20). -/
def Obligations.FixedOperationResults : Prop :=
  ∀ (s : State) (n x y : Reg), flowReady s = true →
    let a := regFx s x
    let b := regFx s y
    computes (.rAbs n x) s (fixedEffect n (sumWord s |a.toInt|) (wide32 |a.toInt|) false (decide (a.toInt < 0))
      (if wide32 |a.toInt| then 0x00000004 else 0)) ∧
    (s.cfg.numerics = [] → computes (.rAvg n x y) s (fixedEffect n (BitVec.ofInt 32 (halved (trunc s) (a.toInt + b.toInt))) false
      (decide (2 ^ 32 ≤ a.toNat + b.toNat)) false 0) ∧
    (b ≠ 0x80000000 → |a.toInt| < |b.toInt| → computes (.rClip n x y) s (fixedEffect n a false false false 0)) ∧
    (b ≠ 0x80000000 → |b.toInt| ≤ |a.toInt| → computes (.rClip n x y) s
      (fixedEffect n (BitVec.ofInt 32 (if a.toInt < 0 then -|b.toInt| else |b.toInt|)) false false false 0)) ∧
    (b = 0x80000000 → computes (.rClip n x y) s (fixedEffect n (Config.clipByMinimum a) false false false 0)) ∧
    computes (.rComp x y) s ⟨[], none, ⟨aluMask ||| caccMask,
      flagBit 0 (decide (a.toInt = b.toInt)) ||| flagBit 2 (decide (a.toInt < b.toInt)) |||
        ((effAstat s >>> 1) &&& 0x7F000000) ||| flagBit 31 (decide (b.toInt < a.toInt)), 0⟩⟩)

/-! The floating-point ALU. -/

/-- R211, R215, R231 to R234: an operand that is a NAN, the first or the second. The floating-point results are NAN1
with AI and AIS, the fixed-point ones all ones with AI and AIS, AN being bit 31 but for MANT; a compare sets AI
and AIS and shifts a 0 into CACC. That a floating-point result is NAN1 with AI and AIS holds whatever results the
parameter Numerics names. Choices of the model or the spec: The pattern written and the flags of the fixed-point
results are log entries 6 and 35. Where the clauses say that the parameter names none, log entry 20. -/
def Obligations.NanOperandResults : Prop :=
  ∀ (s : State) (n x y : Reg), flowReady s = true → isNan (regF s x) = true →
    (s.cfg.numerics = [] → computes (.fAdd n x y) s (nanEffect s n false) ∧ computes (.fAdd n y x) s (nanEffect s n false) ∧
    computes (.fSub n x y) s (nanEffect s n false) ∧ computes (.fSub n y x) s (nanEffect s n false) ∧
    computes (.fAbsAdd n x y) s (nanEffect s n false) ∧ computes (.fAbsAdd n y x) s (nanEffect s n false) ∧
    computes (.fAbsSub n x y) s (nanEffect s n false) ∧ computes (.fAbsSub n y x) s (nanEffect s n false) ∧
    computes (.fAvg n x y) s (nanEffect s n false) ∧ computes (.fAvg n y x) s (nanEffect s n false) ∧
    computes (.fNeg n x) s (nanEffect s n false) ∧ computes (.fAbs n x) s (nanEffect s n (fSign (reg s x))) ∧
    computes (.fPass n x) s (nanEffect s n false) ∧
    computes (.fScalb n x y) s (nanEffect s n false) ∧
    computes (.fRecips n x) s (nanEffect s n false) ∧ computes (.fRsqrts n x) s (nanEffect s n false) ∧
    computes (.fCopysign n x y) s (nanEffect s n false) ∧ computes (.fCopysign n y x) s (nanEffect s n false) ∧
    computes (.fMin n x y) s (nanEffect s n false) ∧ computes (.fMin n y x) s (nanEffect s n false) ∧
    computes (.fMax n x y) s (nanEffect s n false) ∧ computes (.fMax n y x) s (nanEffect s n false) ∧
    computes (.fClip n x y) s (nanEffect s n false) ∧ computes (.fClip n y x) s (nanEffect s n false) ∧
    computes (.fMant n x) s (integerEffect n 0xFFFFFFFF false false (fSign (reg s x)) true 0x00000020) ∧
    computes (.fLogb n x) s (integerEffect n 0xFFFFFFFF false true false true 0x00000020) ∧
    computes (.fFix n x) s (integerEffect n 0xFFFFFFFF false true false true 0x00000020) ∧
    computes (.fFixBy n x y) s (integerEffect n 0xFFFFFFFF false true false true 0x00000020) ∧
    (let invalid : Effect := ⟨[], none, ⟨aluMask ||| caccMask,
      ((effAstat s >>> 1) &&& 0x7F000000) ||| flagBit 5 true ||| flagBit 10 true, 0x00000020⟩⟩
     computes (.fComp x y) s invalid ∧ computes (.fComp y x) s invalid)) ∧
    -- whatever results the parameters name
    (let nan1Of := fun (c : Instr) => ∃ e : Effect, computes c s e ∧ e.regs = [(n, nan1 s)] ∧
       e.flags.val.getLsbD 5 = true ∧ e.flags.sticky.getLsbD 5 = true
     nan1Of (.fAdd n x y) ∧ nan1Of (.fSub n x y) ∧ nan1Of (.fAbsAdd n x y) ∧ nan1Of (.fAbsSub n x y) ∧
     nan1Of (.fAvg n x y) ∧ nan1Of (.fCopysign n x y) ∧ nan1Of (.fMin n x y) ∧ nan1Of (.fMax n x y) ∧
     nan1Of (.fClip n x y) ∧ nan1Of (.fAdd n y x) ∧ nan1Of (.fSub n y x) ∧ nan1Of (.fAbsAdd n y x) ∧
     nan1Of (.fAbsSub n y x) ∧ nan1Of (.fAvg n y x) ∧ nan1Of (.fCopysign n y x) ∧ nan1Of (.fMin n y x) ∧
     nan1Of (.fMax n y x) ∧ nan1Of (.fClip n y x) ∧ nan1Of (.fScalb n x y) ∧ nan1Of (.fNeg n x) ∧
     nan1Of (.fAbs n x) ∧ nan1Of (.fPass n x) ∧ nan1Of (.fRecips n x) ∧ nan1Of (.fRsqrts n x))

/-- R220 to R224 on finite operands: the exact sum or difference (for the average, halved) delivered by the rounding
of the mode; the ABS forms clear the sign of the result. Choices of the model or the spec: The special values are
the reference of R217, log entry 6. Hypothesis: the parameter Numerics names no other results (log entry 20). -/
def Obligations.FiniteFloatSums : Prop :=
  ∀ (s : State) (n x y : Reg) (a b : Fin2), flowReady s = true → s.cfg.numerics = [] →
    classify (regF s x) = .num a → classify (regF s y) = .num b →
    computes (.fAdd n x y) s (deliveredEffect n (delivered s (a.add b))) ∧
    computes (.fSub n x y) s (deliveredEffect n (delivered s (a.add b.negated))) ∧
    (let d := delivered s (a.add b)
     computes (.fAbsAdd n x y) s (deliveredEffect n { d with word := setSign d.word false })) ∧
    (let d := delivered s (a.add b.negated)
     computes (.fAbsSub n x y) s (deliveredEffect n { d with word := setSign d.word false })) ∧
    (let d := delivered s ((a.add b).scale (-1))
     computes (.fAvg n x y) s (deliveredEffect n { d with ovf := false }))

/-- R220 to R224 with an Infinity, the first operand or the second: like signs add and opposite signs subtract to an
Infinity; the other cases are invalid; a finite other operand does not matter. Choices of the model or the spec:
The special values are the reference of R217, log entry 6. Hypothesis: the parameter Numerics names no other
results (log entry 20). -/
def Obligations.InfiniteFloatSums : Prop :=
  ∀ (s : State) (n x y : Reg) (p q : Bool) (b : Fin2), flowReady s = true → s.cfg.numerics = [] → classify (regF s x) = .inf p →
    (classify (regF s y) = .num b →
      computes (.fAdd n x y) s (wordEffect n (fInf p) false false) ∧
      computes (.fAdd n y x) s (wordEffect n (fInf p) false false) ∧
      computes (.fSub n x y) s (wordEffect n (fInf p) false false) ∧
      computes (.fSub n y x) s (wordEffect n (fInf (!p)) false false) ∧
      computes (.fAbsAdd n x y) s (wordEffect n (fInf false) false false) ∧
      computes (.fAbsAdd n y x) s (wordEffect n (fInf false) false false) ∧
      computes (.fAbsSub n x y) s (wordEffect n (fInf false) false false) ∧
      computes (.fAbsSub n y x) s (wordEffect n (fInf false) false false) ∧
      computes (.fAvg n x y) s (wordEffect n (fInf p) false false) ∧
      computes (.fAvg n y x) s (wordEffect n (fInf p) false false)) ∧
    (classify (regF s y) = .inf q →
      (p = q → computes (.fAdd n x y) s (wordEffect n (fInf p) false false) ∧
        computes (.fSub n x y) s (nanEffect s n false) ∧ computes (.fAbsSub n x y) s (nanEffect s n false) ∧
        computes (.fAbsAdd n x y) s (wordEffect n (fInf false) false false) ∧
        computes (.fAvg n x y) s (wordEffect n (fInf p) false false)) ∧
      (p ≠ q → computes (.fAdd n x y) s (nanEffect s n false) ∧ computes (.fAbsAdd n x y) s (nanEffect s n false) ∧
        computes (.fSub n x y) s (wordEffect n (fInf p) false false) ∧
        computes (.fAbsSub n x y) s (wordEffect n (fInf false) false false) ∧
        computes (.fAvg n x y) s (nanEffect s n false)))

/-- R225 to R228, R239 to R242: negation, absolute value, pass, copysign, minimum, maximum, clip and COMP of operands
that are no NANs. The order is that of the values, an Infinity beyond every number; an Infinity negated or made
absolute sets AV; COMP tells equal and less and shifts CACC, whose new bit 31 says greater. Choices of the model
or the spec: Log entries 6 and 35: the flags and special values are the reference of R217. Hypothesis: the
parameter Numerics names no other results (log entry 20). -/
def Obligations.FloatSelectResults : Prop :=
  ∀ (s : State) (n x y : Reg), flowReady s = true → s.cfg.numerics = [] → isNan (regF s x) = false → isNan (regF s y) = false →
    let a := regF s x
    let b := regF s y
    let p := (ordered (classify a)).rat
    let q := (ordered (classify b)).rat
    computes (.fNeg n x) s (wordEffect n (setSign a (!fSign a)) (isInf a) false) ∧
    computes (.fAbs n x) s (wordEffect n (setSign a false) (isInf a) (fSign (reg s x))) ∧
    computes (.fPass n x) s (wordEffect n a false false) ∧
    computes (.fCopysign n x y) s (wordEffect n (setSign a (fSign b)) false false) ∧
    (p ≤ q → computes (.fMin n x y) s (wordEffect n a false false)) ∧
    (q < p → computes (.fMin n x y) s (wordEffect n b false false)) ∧
    (q ≤ p → computes (.fMax n x y) s (wordEffect n a false false)) ∧
    (p < q → computes (.fMax n x y) s (wordEffect n b false false)) ∧
    (|p| < |q| → computes (.fClip n x y) s (wordEffect n a false false)) ∧
    (|q| ≤ |p| → computes (.fClip n x y) s (wordEffect n (setSign b (fSign a)) false false)) ∧
    computes (.fComp x y) s ⟨[], none, ⟨aluMask ||| caccMask,
      flagBit 0 (decide (p = q)) ||| flagBit 2 (decide (p < q)) |||
        ((effAstat s >>> 1) &&& 0x7F000000) ||| flagBit 31 (decide (q < p)) ||| flagBit 10 true, 0⟩⟩

/-- R229, R230, R235, R236: RND to 24 bits, SCALB and FLOAT of finite operands deliver their exact values. Choices of
the model or the spec: Log entries 6 and 35. Hypothesis: the parameter Numerics names no other results (log entry
20). -/
def Obligations.RoundScaleFloatResults : Prop :=
  ∀ (s : State) (n x y : Reg), flowReady s = true → s.cfg.numerics = [] →
    let k := (regFx s y).toInt
    let i := (regFx s x).toInt
    (∀ a, classify (flushDenormal (reg s x)) = .num a →
      computes (.fRnd n x) s (deliveredEffect n (deliver (trunc s) 24 a))) ∧
    (∀ p, classify (flushDenormal (reg s x)) = .inf p → computes (.fRnd n x) s (wordEffect n (fInf p) false false)) ∧
    (isNan (flushDenormal (reg s x)) = true → computes (.fRnd n x) s (nanEffect s n false)) ∧
    (∀ a, classify (regF s x) = .num a → computes (.fScalb n x y) s (deliveredEffect n (delivered s (a.scale k)))) ∧
    (∀ p, classify (regF s x) = .inf p → computes (.fScalb n x y) s (wordEffect n (fInf p) false false)) ∧
    computes (.fFloat n x) s (deliveredEffect n (deliver (trunc s) 32 ⟨decide (i < 0), i.natAbs, 0⟩)) ∧
    computes (.fFloatBy n x y) s (deliveredEffect n (deliver (trunc s) 32 ⟨decide (i < 0), i.natAbs, k⟩))

/-- R233, R234: FIX of a finite operand scaled by a power of two. The integer is the value truncated toward zero, or a
nearest one, the even one of two; out of range it is the nearer end under ALUSAT and else all ones and invalid; a
value not 0 below 1 in magnitude is an underflow. Choices of the model or the spec: The results out of range are
the reference of R217, log entries 6 and 35. Hypothesis: the parameter Numerics names no other results (log entry
20). -/
def Obligations.FixResults : Prop :=
  ∀ (s : State) (n x y : Reg) (a : Fin2) (k : Int), flowReady s = true → s.cfg.numerics = [] → classify (regF s x) = .num a →
    ∃ z : Int,
      (trunc s = true → |(z : ℚ)| ≤ |(a.scale k).rat| ∧ |(a.scale k).rat| < |(z : ℚ)| + 1 ∧
        0 ≤ (z : ℚ) * (a.scale k).rat) ∧
      (trunc s = false → |(z : ℚ) - (a.scale k).rat| ≤ 1 / 2 ∧ (|(z : ℚ) - (a.scale k).rat| = 1 / 2 → z % 2 = 0)) ∧
      (let e := if wide32 z = false then
            integerEffect n (BitVec.ofInt 32 z) false (decide (z < 0)) false false
              (flagBit 0 (decide ((a.scale k).rat ≠ 0 ∧ |(a.scale k).rat| < 1)))
          else if alusat s = true then
            integerEffect n (if z < 0 then 0x80000000 else 0x7FFFFFFF) true (decide (z < 0)) false false 0x00000002
          else integerEffect n 0xFFFFFFFF true true false true 0x00000022
       (k = 0 → computes (.fFix n x) s e) ∧ (k = (regFx s y).toInt → computes (.fFixBy n x y) s e))

/-- R231 to R234 on Infinities, R231 and R232 on finite operands: MANT gives the significand, LOGB the exponent.
Choices of the model or the spec: The special results are log entries 6 and 35. Hypothesis: the parameter Numerics
names no other results (log entry 20). -/
def Obligations.MantissaExponentResults : Prop :=
  ∀ (s : State) (n x y : Reg), flowReady s = true → s.cfg.numerics = [] →
    (∀ a, classify (regF s x) = .num a →
      computes (.fMant n x) s (integerEffect n (BitVec.ofNat 32 a.m) false false (fSign (reg s x)) false 0) ∧
      (a.m ≠ 0 → 2 ^ 31 ≤ a.m ∧ a.m < 2 ^ 32 ∧
        computes (.fLogb n x) s (integerEffect n (BitVec.ofInt 32 (a.e + 31)) false (decide (a.e + 31 < 0)) false false 0)) ∧
      (a.m = 0 → computes (.fLogb n x) s (integerEffect n 0x80000000 true true false false 0x00000002))) ∧
    (∀ p, classify (regF s x) = .inf p →
      computes (.fMant n x) s (integerEffect n 0xFFFFFFFF false false (fSign (reg s x)) true 0x00000020) ∧
      computes (.fLogb n x) s (integerEffect n 0x7FFFFFFF true false false false 0x00000002) ∧
      (let e := if alusat s = true then
            integerEffect n (if p then 0x80000000 else 0x7FFFFFFF) true p false false 0x00000002
          else integerEffect n 0xFFFFFFFF true true false true 0x00000022
       computes (.fFix n x) s e ∧ computes (.fFixBy n x y) s e))

/-- R237, R238: the seeds. Zero gives an Infinity and AV, an Infinity gives Zero; the reciprocal has the operand's
sign, the exponent -E - 1 and a fraction that makes it right within 2^-8 relative (eight bits), or underflows to
Zero; the root of a negative number is invalid, that of a positive one is a positive normal number right within
2^-4 relative (four bits). Under RND32 the eight low bits are zero. Choices of the model or the spec: Within their
accuracy the seeds are free, and how "about 8" and "about 4" bits are taken is log entry 34; the special values
are the spec's general knowledge. Hypothesis: the parameter Numerics names no other results (log entry 20). -/
def Obligations.SeedResults : Prop :=
  ∀ (s : State) (n x : Reg), flowReady s = true → s.cfg.numerics = [] →
    let a := regF s x
    (isZero a = true → computes (.fRecips n x) s (wordEffect n (fInf (fSign a)) true false) ∧
      computes (.fRsqrts n x) s (wordEffect n (fInf (fSign a)) true false)) ∧
    (∀ p, classify a = .inf p → computes (.fRecips n x) s (wordEffect n (fZero p) false false)) ∧
    (classify a = .inf false → computes (.fRsqrts n x) s (wordEffect n (fZero false) false false)) ∧
    (classify a = .inf true → computes (.fRsqrts n x) s (nanEffect s n false)) ∧
    (∀ v, classify a = .num v → 0 < fExp a → fExp a ≤ 252 →
      ∃ f : Nat, f < 2 ^ 31 ∧ (rnd32 s = true → f % 256 = 0) ∧
        |((2 ^ 31 + f) * v.m : Int) - 2 ^ 63| ≤ 2 ^ 55 ∧
        computes (.fRecips n x) s (wordEffect n (fWord v.neg (253 - fExp a) f) false false)) ∧
    (∀ v, classify a = .num v → 253 ≤ fExp a →
      computes (.fRecips n x) s (deliveredEffect n ⟨fZero v.neg, false, true⟩)) ∧
    (∀ v, classify a = .num v → v.m ≠ 0 → v.neg = true → computes (.fRsqrts n x) s (nanEffect s n false)) ∧
    (∀ v, classify a = .num v → v.m ≠ 0 → v.neg = false →
      ∃ (w : W40) (q : Fin2), classify w = .num q ∧ q.neg = false ∧ (rnd32 s = true → w.extractLsb' 0 8 = 0) ∧
        (225 / 256 : ℚ) ≤ q.rat ^ 2 * v.rat ∧ q.rat ^ 2 * v.rat ≤ 289 / 256 ∧
        computes (.fRsqrts n x) s (wordEffect n w false false))

/-- R212 to R214: rounding to `p` bits and delivery. The significand has exactly `p` bits; rounding to nearest is off
by at most half a unit and on a tie the significand is even; truncation never exceeds the magnitude and is off by
less than a unit. A result in range is the rounded value with the sign kept and its low bits zero under RND32;
past the largest exponent it is an Infinity, or truncated the largest number; below the smallest it is Zero; an
exact zero is Zero with no underflow. Choices of the model or the spec: Underflow is tested after rounding (D21,
log entry 35). -/
def Obligations.RoundingAndDeliveryAreCorrect : Prop :=
  (∀ (p m : Nat) (e : Int), 2 ≤ p → m ≠ 0 →
    (let w := roundTo false p m e
     2 ^ (p - 1) ≤ w.1 ∧ w.1 < 2 ^ p ∧ roundError w.1 w.2 m e ≤ (2 : ℚ) ^ w.2 / 2 ∧
      (roundError w.1 w.2 m e = (2 : ℚ) ^ w.2 / 2 → w.1 % 2 = 0)) ∧
    (let w := roundTo true p m e
     2 ^ (p - 1) ≤ w.1 ∧ w.1 < 2 ^ p ∧ (w.1 : ℚ) * (2 : ℚ) ^ w.2 ≤ (m : ℚ) * (2 : ℚ) ^ e ∧
      roundError w.1 w.2 m e < (2 : ℚ) ^ w.2)) ∧
  ∀ (truncate : Bool) (p : Nat) (z : Fin2), p = 24 ∨ p = 32 →
    let d := deliver truncate p z
    let w := roundTo truncate p z.m z.e
    (z.m = 0 → d = ⟨fZero z.neg, false, false⟩) ∧
    (z.m ≠ 0 → 128 ≤ w.2 + (p - 1 : Nat) → d.ovf = true ∧ d.unf = false ∧
      d.word = if truncate then fMaxNormal p z.neg else fInf z.neg) ∧
    (z.m ≠ 0 → w.2 + (p - 1 : Nat) ≤ -127 → d = ⟨fZero z.neg, false, true⟩) ∧
    (z.m ≠ 0 → -126 ≤ w.2 + (p - 1 : Nat) → w.2 + (p - 1 : Nat) ≤ 127 →
      d.ovf = false ∧ d.unf = false ∧ (p = 24 → d.word.extractLsb' 0 8 = 0) ∧
      ∃ v, classify d.word = .num v ∧ v.neg = z.neg ∧ (v.m : ℚ) * (2 : ℚ) ^ v.e = (w.1 : ℚ) * (2 : ℚ) ^ w.2)

/-- The sum, the product and the scaling of finite operands are exact. Choices of the model or the spec: It is of the
model's representation of numbers, log entry 6. -/
def Obligations.FiniteArithmeticIsExact : Prop :=
  ∀ (a b : Fin2) (k : Int),
    (a.add b).rat = a.rat + b.rat ∧ (a.mul b).rat = a.rat * b.rat ∧ (a.scale k).rat = a.rat * (2 : ℚ) ^ k ∧
      (Fin2.lt a b = true ↔ a.rat < b.rat)

/-! The multiplier. -/

/-- R262 to R264, R270 to R275: the products, exact modulo 2^80, to Rn, MRF or MRB, and the accumulations of MRF or
MRB to a register or to itself. Choices of the model or the spec: Arithmetic modulo 2^80 and MN are the spec's
decision D24. -/
def Obligations.FixedProductResults : Prop :=
  ∀ (s : State) (n x y : Reg) (md : MulMod), flowReady s = true →
    let z := exactProduct md (regFx s x) (regFx s y)
    let alone := productWord md z
    let plus := fun back => productWord md ((mrReg s back).toInt + z)
    let less := fun back => productWord md ((mrReg s back).toInt - z)
    computes (.mulR n x y md) s (productToReg n (bothUnsigned md) (isInteger md) alone) ∧
    computes (.mulMrf x y md) s (productToMr s false (bothUnsigned md) (isInteger md) alone) ∧
    computes (.mulMrb x y md) s (productToMr s true (bothUnsigned md) (isInteger md) alone) ∧
    computes (.macAddRMrf n x y md) s (productToReg n (bothUnsigned md) (isInteger md) (plus false)) ∧
    computes (.macAddRMrb n x y md) s (productToReg n (bothUnsigned md) (isInteger md) (plus true)) ∧
    computes (.macAddMrf x y md) s (productToMr s false (bothUnsigned md) (isInteger md) (plus false)) ∧
    computes (.macAddMrb x y md) s (productToMr s true (bothUnsigned md) (isInteger md) (plus true)) ∧
    computes (.macSubRMrf n x y md) s (productToReg n (bothUnsigned md) (isInteger md) (less false)) ∧
    computes (.macSubRMrb n x y md) s (productToReg n (bothUnsigned md) (isInteger md) (less true)) ∧
    computes (.macSubMrf x y md) s (productToMr s false (bothUnsigned md) (isInteger md) (less false)) ∧
    computes (.macSubMrb x y md) s (productToMr s true (bothUnsigned md) (isInteger md) (less true))

/-- R265, R266, R276 to R279: SAT brings the value into the range of its format; RND rounds at bit 32 to nearest, ties
to even; bits 31 to 0 keep what adding 2^31 leaves. Choices of the model or the spec: The flags and the tie to
even are log entry 31, the low half is the spec's decision D24. -/
def Obligations.SaturateRoundResults : Prop :=
  (∀ a : W80, ((rndMr a).toNat / 2 ^ 32 : Nat) =
    (a.toNat / 2 ^ 32 + (if 2 ^ 31 < a.toNat % 2 ^ 32 ∨ (a.toNat % 2 ^ 32 = 2 ^ 31 ∧ a.toNat / 2 ^ 32 % 2 = 1)
      then 1 else 0)) % 2 ^ 48) ∧
  (∀ a : W80, (rndMr a).toNat % 2 ^ 32 = (a.toNat + 2 ^ 31) % 2 ^ 32) ∧
  ∀ (s : State) (n : Reg) (md : SatMod) (sg : Sgn), flowReady s = true →
    (let uns := md.sg == .u
     computes (.satRMrf n md) s (productToReg n uns (!md.frac) (saturate md (mrReg s false))) ∧
     computes (.satRMrb n md) s (productToReg n uns (!md.frac) (saturate md (mrReg s true))) ∧
     computes (.satMrf md) s (productToMr s false uns (!md.frac) (saturate md (mrReg s false))) ∧
     computes (.satMrb md) s (productToMr s true uns (!md.frac) (saturate md (mrReg s true)))) ∧
    (let uns := sg == .u
     computes (.rndRMrf n sg) s (productToReg n uns false (rndMr (mrReg s false))) ∧
     computes (.rndRMrb n sg) s (productToReg n uns false (rndMr (mrReg s true))) ∧
     computes (.rndMrf sg) s (productToMr s false uns false (rndMr (mrReg s false))) ∧
     computes (.rndMrb sg) s (productToMr s true uns false (rndMr (mrReg s true))))

/-- R29, R30, R280, R290, R291: clearing an MR register, and the transfers of its three parts. MR2 is read sign-
extended; a write of MR1 sign-extends into MR2; the multiplier's flags become 0. Choices of the model or the spec:
The flags are log entry 31. -/
def Obligations.MrTransferResults : Prop :=
  ∀ (s : State) (n : Reg), flowReady s = true →
    let rd := fun (v : W32) => (⟨[(n, put32 v)], none, mulCleared⟩ : Effect)
    let wr := fun (back : Bool) (v : W80) => (⟨[], some (mrIdx s back, v), mulCleared⟩ : Effect)
    let f := mrReg s false
    let b := mrReg s true
    let v := regFx s n
    computes .clrMrf s (wr false 0) ∧ computes .clrMrb s (wr true 0) ∧
    computes (.rdMr0f n) s (rd (BitVec.ofNat 32 f.toNat)) ∧
    computes (.rdMr1f n) s (rd (BitVec.ofNat 32 (f.toNat / 2 ^ 32))) ∧
    computes (.rdMr2f n) s (rd (BitVec.ofInt 32 (f.toInt / 2 ^ 64))) ∧
    computes (.rdMr0b n) s (rd (BitVec.ofNat 32 b.toNat)) ∧
    computes (.rdMr1b n) s (rd (BitVec.ofNat 32 (b.toNat / 2 ^ 32))) ∧
    computes (.rdMr2b n) s (rd (BitVec.ofInt 32 (b.toInt / 2 ^ 64))) ∧
    (∀ back, let m := mrReg s back
      let part0 := BitVec.ofNat 80 (m.toNat / 2 ^ 32 * 2 ^ 32 + v.toNat)
      let part1 := BitVec.ofInt 80 (v.toInt * 2 ^ 32 + (m.toNat % 2 ^ 32 : Nat))
      let part2 := BitVec.ofNat 80 (v.toNat % 2 ^ 16 * 2 ^ 64 + m.toNat % 2 ^ 64)
      (back = false → computes (.wrMr0f n) s (wr back part0) ∧ computes (.wrMr1f n) s (wr back part1) ∧
        computes (.wrMr2f n) s (wr back part2)) ∧
      (back = true → computes (.wrMr0b n) s (wr back part0) ∧ computes (.wrMr1b n) s (wr back part1) ∧
        computes (.wrMr2b n) s (wr back part2)))

/-- R292: the floating-point product: the exact product delivered; an Infinity times a number that is not 0 is an
Infinity; an Infinity times Zero and a NAN operand are invalid. MV, MU and MI tell, with MVS, MUS and MIS. Choices
of the model or the spec: The special values are the reference of R217, log entry 6. Hypothesis: the parameter
Numerics names no other results (log entry 20). -/
def Obligations.FloatProductResult : Prop :=
  ∀ (s : State) (n x y : Reg), flowReady s = true → s.cfg.numerics = [] →
    let a := classify (regF s x)
    let b := classify (regF s y)
    let invalid : Effect := ⟨[(n, nan1 s)], none, ⟨mulMask, flagBit 9 true, flagBit 9 true⟩⟩
    let infinite := fun (neg : Bool) => (⟨[(n, fInf neg)], none, ⟨mulMask, flagBit 6 neg, 0⟩⟩ : Effect)
    (a = .nan ∨ b = .nan → computes (.fMul n x y) s invalid) ∧
    (∀ p v, v.m = 0 → (a = .inf p ∧ b = .num v ∨ a = .num v ∧ b = .inf p) → computes (.fMul n x y) s invalid) ∧
    (∀ p v, v.m ≠ 0 → (a = .inf p ∧ b = .num v ∨ a = .num v ∧ b = .inf p) →
      computes (.fMul n x y) s (infinite (p != v.neg))) ∧
    (∀ p q, a = .inf p → b = .inf q → computes (.fMul n x y) s (infinite (p != q))) ∧
    (∀ v w, a = .num v → b = .num w → let d := delivered s (v.mul w)
      computes (.fMul n x y) s ⟨[(n, d.word)], none,
        ⟨mulMask, flagBit 6 (fSign d.word) ||| flagBit 7 d.ovf ||| flagBit 8 d.unf, flagBit 7 d.ovf ||| flagBit 8 d.unf⟩⟩)

/-! The shifter. -/

/-- R313 to R317, bit by bit: logical and arithmetic shifts by any amount and rotations by an amount modulo 32, alone
and ORed into Rn. SV tells a 1, or for the arithmetic shift a bit unlike the sign, lost to the left. Choices of
the model or the spec: R313, R315 and R317 and the width of the shift amount are the spec's general knowledge. -/
def Obligations.ShiftResults : Prop :=
  ∀ (s : State) (n x y : Reg) (d8 : BitVec 8) (d : Int), flowReady s = true →
    let a := regFx s x
    ∃ l r t : W32, ∃ sv : Bool,
      hasBits l (shiftedBit a d) ∧ hasBits r (arithmeticBit a d) ∧
      hasBits t (fun k => a.getLsbD (((k : Int) - d) % 32).toNat) ∧
      (sv = true ↔ 0 < d ∧ (a.toInt * 2 ^ d.toNat < -2 ^ 31 ∨ 2 ^ 31 ≤ a.toInt * 2 ^ d.toNat)) ∧
      (d = (regFx s y).toInt →
        computes (.lshift n x y) s (shiftEffect n l (losesOne a d)) ∧
        computes (.orLshift n x y) s (shiftEffect n (regFx s n ||| l) (losesOne a d)) ∧
        computes (.ashift n x y) s (shiftEffect n r sv) ∧
        computes (.orAshift n x y) s (shiftEffect n (regFx s n ||| r) sv) ∧
        computes (.rot n x y) s (shiftEffect n t false)) ∧
      (d = d8.toInt →
        computes (.lshiftImm n x d8) s (shiftEffect n l (losesOne a d)) ∧
        computes (.orLshiftImm n x d8) s (shiftEffect n (regFx s n ||| l) (losesOne a d)) ∧
        computes (.ashiftImm n x d8) s (shiftEffect n r sv) ∧
        computes (.orAshiftImm n x d8) s (shiftEffect n (regFx s n ||| r) sv) ∧
        computes (.rotImm n x d8) s (shiftEffect n t false))

/-- R318 to R321: the bit operations on bit `d`; outside 0 to 31 the operand passes and SV is set, and the test says
zero. Choices of the model or the spec: The width of the bit number (R311) is the spec's general knowledge, SV of
BTGL its inference. -/
def Obligations.BitOperationResults : Prop :=
  ∀ (s : State) (n x y : Reg) (d8 : BitVec 8) (d : Int), flowReady s = true →
    let a := regFx s x
    let out := decide (d < 0 ∨ 32 ≤ d)
    ∃ c t g : W32,
      hasBits c (fun k => if (k : Int) = d then false else a.getLsbD k) ∧
      hasBits t (fun k => if (k : Int) = d then true else a.getLsbD k) ∧
      hasBits g (fun k => if (k : Int) = d then !a.getLsbD k else a.getLsbD k) ∧
      (let test : Effect := ⟨[], none, ⟨shiftMask, flagBit 11 out ||| flagBit 12 (out || !a.getLsbD d.toNat), 0⟩⟩
       (d = (regFx s y).toInt →
        computes (.bclr n x y) s (shiftEffect n c out) ∧ computes (.bset n x y) s (shiftEffect n t out) ∧
        computes (.btgl n x y) s (shiftEffect n g out) ∧ computes (.btst x y) s test) ∧
       (d = d8.toInt →
        computes (.bclrImm n x d8) s (shiftEffect n c out) ∧ computes (.bsetImm n x d8) s (shiftEffect n t out) ∧
        computes (.btglImm n x d8) s (shiftEffect n g out) ∧ computes (.btstImm x d8) s test))

/-- R311, R322 to R327, bit by bit: deposits and extracts of `len` bits at `bit`, zero-filled or sign-extended, alone
and ORed. The register form takes bit from bits 5-0 and len from bits 11-6 of Ry. SV tells a field that passes bit
31. Choices of the model or the spec: SV of a deposit is the spec's decision D32; R324 and R327 are its general
knowledge. -/
def Obligations.FieldResults : Prop :=
  ∀ (s : State) (n x y : Reg) (bit len : BitVec 6), flowReady s = true →
    let a := regFx s x
    let o := regFx s n
    let sv := decide (32 < bit.toNat + len.toNat)
    ∃ p q e f : W32,
      hasBits p (depositBit a bit.toNat len.toNat) ∧ hasBits q (depositSeBit a bit.toNat len.toNat) ∧
      hasBits e (extractBit a bit.toNat len.toNat) ∧ hasBits f (extractSeBit a bit.toNat len.toNat) ∧
      (computes (.fdepImm n x bit len) s (shiftEffect n p sv) ∧
       computes (.orFdepImm n x bit len) s (shiftEffect n (o ||| p) sv) ∧
       computes (.fdepSeImm n x bit len) s (shiftEffect n q sv) ∧
       computes (.orFdepSeImm n x bit len) s (shiftEffect n (o ||| q) sv) ∧
       computes (.fextImm n x bit len) s (shiftEffect n e sv) ∧
       computes (.fextSeImm n x bit len) s (shiftEffect n f sv)) ∧
      ((regFx s y).toNat % 2 ^ 12 = len.toNat * 2 ^ 6 + bit.toNat →
       computes (.fdep n x y) s (shiftEffect n p sv) ∧
       computes (.orFdep n x y) s (shiftEffect n (o ||| p) sv) ∧
       computes (.fdepSe n x y) s (shiftEffect n q sv) ∧
       computes (.orFdepSe n x y) s (shiftEffect n (o ||| q) sv) ∧
       computes (.fext n x y) s (shiftEffect n e sv) ∧
       computes (.fextSe n x y) s (shiftEffect n f sv))

/-- R328 to R331: the exponent of Rx is one less its leading sign bits (with EX, 1 after an ALU overflow), SS its
sign; LEFTZ and LEFTO count leading zeros and ones, SV when all 32 are. R333: FUNPACK gives the sign of bit 15,
and from a short exponent g not 0 the exponent g + 120 and the 11-bit fraction, from g = 0 the fraction normalised
or a Zero. R332: FPACK gives by the exponent e the largest short float with SV (e > 135), e - 120 and the fraction
rounded to 11 bits (e > 120), the significand shifted into the fraction with exponent 0 (e > 109), or Zero;
inexact results may go up by one. FUNPACK of a short number then FPACK gives it back. Both complete and write SZ
and SS as 0. Choices of the model or the spec: All but the flags are the spec's general knowledge; FPACK's
rounding is free, log entry 33; AV of the effective ASTAT, log entry 32. FPACK and FUNPACK complete so where
Numerics names no other results (log entry 20). -/
def Obligations.ExponentCountShortFloatResults : Prop :=
  (∀ h : BitVec 16, packShort (fx (unpackShort (h.setWidth 32))) = (h.setWidth 32, false)) ∧
  -- FUNPACK: sign, exponent and fraction
  (∀ h : W32,
    let w := unpackShort h
    let g := h.toNat / 2 ^ 11 % 2 ^ 4
    let f := h.toNat % 2 ^ 11
    fSign w = h.getLsbD 15 ∧
    (g ≠ 0 → fExp w = 120 + g ∧ fFrac w = f * 2 ^ 20) ∧
    (g = 0 → f = 0 → w = fZero (h.getLsbD 15)) ∧
    (g = 0 → f ≠ 0 → ∃ z : Nat, z ≤ 10 ∧ 2 ^ (10 - z) ≤ f ∧ f < 2 ^ (11 - z) ∧ fExp w = 120 - z ∧
      2 ^ 31 + fFrac w = f * 2 ^ (21 + z))) ∧
  -- FPACK: overflow, normal, gradual and Zero by the exponent
  (∀ v : W32,
    let e := v.toNat / 2 ^ 23 % 2 ^ 8
    let f := v.toNat % 2 ^ 23
    let o := packShort v
    let m := o.1.toNat % 2 ^ 15
    o.1.toNat < 2 ^ 16 ∧ o.1.getLsbD 15 = v.getLsbD 31 ∧
    (135 < e → o.2 = true ∧ m = 2 ^ 15 - 1) ∧
    (120 < e → e ≤ 135 →
      let x := (e - 120) * 2 ^ 23 + f
      let q := x / 2 ^ 12
      (o.2 = false ∧ (m = q ∨ (m = q + 1 ∧ x % 2 ^ 12 ≠ 0))) ∨
        (o.2 = true ∧ m = 2 ^ 15 - 1 ∧ q = 2 ^ 15 - 1 ∧ x % 2 ^ 12 ≠ 0)) ∧
    (109 < e → e ≤ 120 →
      let x := 2 ^ 23 + f
      let q := x / 2 ^ (133 - e)
      o.2 = false ∧ (m = q ∨ (m = q + 1 ∧ x % 2 ^ (133 - e) ≠ 0))) ∧
    (e ≤ 109 → o.2 = false ∧ m = 0)) ∧
  ∀ (s : State) (n x : Reg), flowReady s = true →
    let a := regFx s x
    ∃ i j k : Nat, leads a (a.getLsbD 31) i ∧ leads a false j ∧ leads a true k ∧
      (let ex := fun (r : W32) => (⟨[(n, put32 r)], none,
          ⟨shiftMask, flagBit 12 (r == 0) ||| flagBit 13 (a.getLsbD 31), 0⟩⟩ : Effect)
       computes (.expo n x) s (ex (BitVec.ofInt 32 (1 - (i : Int)))) ∧
       (bitOf (effAstat s) 1 = true → computes (.expoEx n x) s (ex 1)) ∧
       (bitOf (effAstat s) 1 = false → computes (.expoEx n x) s (ex (BitVec.ofInt 32 (1 - (i : Int)))))) ∧
      computes (.leftz n x) s (shiftEffect n (BitVec.ofNat 32 j) (decide (j = 32))) ∧
      computes (.lefto n x) s (shiftEffect n (BitVec.ofNat 32 k) (decide (k = 32))) ∧
      (s.cfg.numerics = [] →
        computes (.fpack n x) s ⟨[(n, put32 (packShort (regFx s x)).1)], none,
          ⟨shiftMask, flagBit 11 (packShort (regFx s x)).2, 0⟩⟩ ∧
        computes (.funpack n x) s ⟨[(n, unpackShort (regFx s x))], none, ⟨shiftMask, 0, 0⟩⟩)

/-! Multifunction computations. -/

/-- R370, R371, R374 to R376: the dual add/subtract, whose flags are those of the two results ORed and which is
refused with one destination for both, and the fixed-point multiplier with an ALU operation: the ALU's registers
are written after the multiplier's, the flags of both units are written. Choices of the model or the spec: R374
and R376 are the spec's general knowledge; the refusal is its U24. The average stands where the parameter Numerics
names no other results (log entry 20). -/
def Obligations.FixedMultifunctionResults : Prop :=
  ∀ (s : State) (m a : Reg) (xm ym xa ya : Quad), flowReady s = true →
    let both := fun (p q : Effect) => (⟨p.regs ++ q.regs, p.mr, ⟨aluMask ||| mulMask, p.flags.val ||| q.flags.val,
      p.flags.sticky ||| q.flags.sticky⟩⟩ : Effect)
    let x := regFx s (quadXa xa)
    let y := regFx s (quadYa ya)
    let z := exactProduct ssfr (regFx s (quadXm xm)) (regFx s (quadYm ym))
    let add := sumEffect s a (x.toInt + y.toInt) (decide (2 ^ 32 ≤ x.toNat + y.toNat))
    let sub := sumEffect s a (x.toInt - y.toInt) (decide (y.toNat ≤ x.toNat))
    let avg := fixedEffect a (BitVec.ofInt 32 (halved (trunc s) (x.toInt + y.toInt))) false
      (decide (2 ^ 32 ≤ x.toNat + y.toNat)) false 0
    let f := (mrReg s false).toInt
    let toR := fun (v : Int) => productToReg m false false (rndMr (BitVec.ofInt 80 v))
    let toMr := fun (v : Int) => productToMr s false false false (BitVec.ofInt 80 v)
    computes (.mulRWithAdd m a xm ym xa ya) s (both (toR z) add) ∧
    computes (.mulRWithSub m a xm ym xa ya) s (both (toR z) sub) ∧
    computes (.macAddMrfWithAdd a xm ym xa ya) s (both (toMr (f + z)) add) ∧
    computes (.macAddMrfWithSub a xm ym xa ya) s (both (toMr (f + z)) sub) ∧
    computes (.macAddRMrfWithAdd m a xm ym xa ya) s (both (toR (f + z)) add) ∧
    computes (.macAddRMrfWithSub m a xm ym xa ya) s (both (toR (f + z)) sub) ∧
    computes (.macSubMrfWithAdd a xm ym xa ya) s (both (toMr (f - z)) add) ∧
    computes (.macSubMrfWithSub a xm ym xa ya) s (both (toMr (f - z)) sub) ∧
    computes (.macSubRMrfWithAdd m a xm ym xa ya) s (both (toR (f - z)) add) ∧
    computes (.macSubRMrfWithSub m a xm ym xa ya) s (both (toR (f - z)) sub) ∧
    (s.cfg.numerics = [] → computes (.mulRWithAvg m a xm ym xa ya) s (both (toR z) avg) ∧
      computes (.macAddMrfWithAvg a xm ym xa ya) s (both (toMr (f + z)) avg) ∧
      computes (.macAddRMrfWithAvg m a xm ym xa ya) s (both (toR (f + z)) avg) ∧
      computes (.macSubMrfWithAvg a xm ym xa ya) s (both (toMr (f - z)) avg) ∧
      computes (.macSubRMrfWithAvg m a xm ym xa ya) s (both (toR (f - z)) avg)) ∧
    ∀ d : Reg,
      (a ≠ d → computes (.mulRWithDual m a d xm ym xa ya) s (both (toR z) (dualSums s a d x y))) ∧
      (∀ rx ry : Reg, a ≠ d → computes (.dualAddSub a d rx ry) s (dualSums s a d (regFx s rx) (regFx s ry))) ∧
      (∀ rx ry : Reg, a = d → exec (.dualAddSub a d rx ry) s = .refused .sameDualDestination ∧
        exec (.mulRWithDual m a d xm ym xa ya) s = .refused .sameDualDestination)

/-- R372, R375 to R378: the floating-point dual add/subtract, whose results are those of the sum and of the difference
alone with their flags ORed and which is refused with one destination for both, and a floating-point multiply with
an ALU operation: each form does what its two operations, from F3-0 and F7-4 and from F11-8 and F15-12, do alone;
the ALU's result wins a register both write. Choices of the model or the spec: R375 and R376 are the spec's
general knowledge; the refusal is its U24; the last clause takes the reference Numerics (log entry 20). -/
def Obligations.FloatMultifunctionResults : Prop :=
  ∀ (s : State) (m a : Reg) (xm ym xa ya : Quad), flowReady s = true →
    let both := fun (p q : Effect) => (⟨p.regs ++ q.regs, none, ⟨aluMask ||| mulMask, p.flags.val ||| q.flags.val,
      p.flags.sticky ||| q.flags.sticky⟩⟩ : Effect)
    let x := quadXa xa
    let y := quadYa ya
    ∀ p, computeEffect (.fMul m (quadXm xm) (quadYm ym)) s = .ok p →
      (∀ q, computeEffect (.fAdd a x y) s = .ok q → computes (.fMulWithFAdd m a xm ym xa ya) s (both p q)) ∧
      (∀ q, computeEffect (.fSub a x y) s = .ok q → computes (.fMulWithFSub m a xm ym xa ya) s (both p q)) ∧
      (∀ q, computeEffect (.fFloatBy a x y) s = .ok q → computes (.fMulWithFloatBy m a xm ym xa ya) s (both p q)) ∧
      (∀ q, computeEffect (.fFixBy a x y) s = .ok q → computes (.fMulWithFixBy m a xm ym xa ya) s (both p q)) ∧
      (∀ q, computeEffect (.fAvg a x y) s = .ok q → computes (.fMulWithFAvg m a xm ym xa ya) s (both p q)) ∧
      (∀ q, computeEffect (.fAbs a x) s = .ok q → computes (.fMulWithFAbs m a xm ym xa) s (both p q)) ∧
      (∀ q, computeEffect (.fMax a x y) s = .ok q → computes (.fMulWithFMax m a xm ym xa ya) s (both p q)) ∧
      (∀ q, computeEffect (.fMin a x y) s = .ok q → computes (.fMulWithFMin m a xm ym xa ya) s (both p q)) ∧
      (∀ (d rx ry : Reg) (p' q' : Effect), computeEffect (.fAdd a rx ry) s = .ok p' →
        computeEffect (.fSub d rx ry) s = .ok q' →
        let q : Effect := ⟨p'.regs ++ q'.regs, none,
          ⟨aluMask, p'.flags.val ||| q'.flags.val, p'.flags.sticky ||| q'.flags.sticky⟩⟩
        (a ≠ d → computes (.dualFAddSub a d rx ry) s q) ∧
        (a ≠ d → rx = x → ry = y → computes (.fMulWithDual m a d xm ym xa ya) s (both p q)) ∧
        (a = d → exec (.dualFAddSub a d rx ry) s = .refused .sameDualDestination ∧
          exec (.fMulWithDual m a d xm ym xa ya) s = .refused .sameDualDestination)) ∧
      ∀ (d rx ry : Reg) (v w : Fin2), s.cfg.numerics = [] → classify (regF s rx) = .num v → classify (regF s ry) = .num w →
        (let p' := deliveredEffect a (delivered s (v.add w))
         let q' := deliveredEffect d (delivered s (v.add w.negated))
         let q : Effect := ⟨p'.regs ++ q'.regs, none,
          ⟨aluMask, p'.flags.val ||| q'.flags.val, p'.flags.sticky ||| q'.flags.sticky⟩⟩
         (a ≠ d → computes (.dualFAddSub a d rx ry) s q) ∧
         (a ≠ d → rx = x → ry = y → computes (.fMulWithDual m a d xm ym xa ya) s (both p q)))

/-! Data moves. -/

/-- R391, R392, R402: a register move carries 40 bits and an immediate load 32 into the destination, after the
computation beside it; under a false condition nothing happens but the sequencing, where an instruction with that
destination may stand at all. Choices of the model or the spec: Widths of narrow registers are log entry 13; where
a write of a stack register may not stand is the spec's U3 (log entry 27). -/
def Obligations.RegisterMoveResults : Prop :=
  ∀ (s : State) (cond : Cond) (c : Option Compute) (dst src : Ureg) (v : W32) (e : Effect), flowReady s = true →
    (takesWrite s dst (bus32 v) false = true →
      transfers (.loadImm dst v) s fun t => putUreg s t dst (bus32 v) .register) ∧
    (standsHere s dst false = true → mayTest cond s = true → condition s cond = false →
      completes (.uregMove cond c dst src) s id) ∧
    (mayTest cond s = true → condition s cond = true → slotEffect c s = .ok e → givesRead s src = true →
      takesWrite s dst (onDmBus (readUreg s src)) false = true →
      transfers (.uregMove cond c dst src) s fun t =>
        putUreg s (applyEffect s t e) dst (onDmBus (readUreg s src)) .register)

/-- R393 to R397: loads. The word at I, at I + M, or at the address in the instruction goes into the destination,
after the computation; a DM load brings 40 bits, a PM load of PX all 48; the post-modify comes last. Under a false
condition only the sequencing happens, but a load of CURLCNTR still counts as one for the instruction after it
(R449). R104: a load of an unmapped address faults, and so does one of an internal word that holds nothing. R449:
CURLCNTR is not loaded from memory at the test of any active counter-based loop, the innermost or an outer one.
Choices of the model or the spec: The operand orders and the pre-modify form are the spec's general knowledge
(R393, R395); widths are log entry 46; the faults are the spec's decisions D5 and D8, the refusal its D29, also
where the IF is false, and the load not made that still counts for IF NOT LCE (log entry 22). -/
def Obligations.LoadResults : Prop :=
  (∀ (s : State) (cond : Cond) (c : Option Compute) (dst : Ureg) (i m : Fin 8) (a32 : W32) (a24 : A24) (e : Effect) (v : W48),
    flowReady s = true → slotEffect c s = .ok e → takesWrite s dst v true = true →
    let dm := fun (a : W32) => readWord s .dm false a.toNat
    let pm := fun (a : A24) => readWord s .pm (wide dst) a.toNat
    let stops := fun (k : Instr) (a : Nat) =>
      (regionOf s.cfg a = .unmapped → exec k s = .fault .unmapped) ∧
      ∀ b w, regionOf s.cfg a = .internal b w → (∀ j < 6, s.mem.read (wordKey a + j) = none) →
        exec k s = .fault .unwrittenMemory
    (dm a32 = .ok v → transfers (.ldDmAbs dst a32) s fun t => putUreg s t dst v .memory) ∧
    (pm a24 = .ok v → transfers (.ldPmAbs dst a24) s fun t => putUreg s t dst v .programMemory) ∧
    stops (.ldDmAbs dst a32) a32.toNat ∧ stops (.ldPmAbs dst a24) a24.toNat ∧
    (mayTest cond s = true → condition s cond = true →
      (dst.isIndex1 i = false → stops (.ldDmPost cond c dst i m) (dag1Address s i).toNat ∧
        (dm (dag1Address s i) = .ok v →
          transfers (.ldDmPost cond c dst i m) s fun t =>
            (putUreg s (applyEffect s t e) dst v .memory).map fun t => updateDag1 s t i m)) ∧
      (dst.isIndex2 i = false → stops (.ldPmPost cond c dst i m) (dag2Address s i).toNat ∧
        (pm (dag2Address s i) = .ok v →
          transfers (.ldPmPost cond c dst i m) s fun t =>
            (putUreg s (applyEffect s t e) dst v .programMemory).map fun t => updateDag2 s t i m)) ∧
      stops (.ldDmPre cond c dst m i) (dag1Reg s .i i + dag1Reg s .m m).toNat ∧
      stops (.ldPmPre cond c dst m i) (dag2Reg s .i i + dag2Reg s .m m).toNat ∧
      (dm (dag1Reg s .i i + dag1Reg s .m m) = .ok v →
        transfers (.ldDmPre cond c dst m i) s fun t => putUreg s (applyEffect s t e) dst v .memory) ∧
      (pm (dag2Reg s .i i + dag2Reg s .m m) = .ok v →
        transfers (.ldPmPre cond c dst m i) s fun t => putUreg s (applyEffect s t e) dst v .programMemory)) ∧
    (mayTest cond s = true → condition s cond = false →
      let skips := fun (k : Instr) => completes k s fun t => { t with counterLoaded := decide (dst = .curlcntr) }
      skips (.ldDmPost cond c dst i m) ∧ skips (.ldPmPost cond c dst i m) ∧
      skips (.ldDmPre cond c dst m i) ∧ skips (.ldPmPre cond c dst m i))) ∧
  ∀ (s : State) (n : Fin 6) (cond : Cond) (c : Option Compute) (i m : Fin 8) (a32 : W32) (a24 : A24),
    n.val < s.lsp.val → (levelAt s n).kind = 3 → s.pc + 2 = (levelAt s n).e → inSlot s = false →
    let refusedHere := fun (k : Instr) => exec k s = .refused .counterFromMemoryAtTest
    refusedHere (.ldDmAbs .curlcntr a32) ∧ refusedHere (.ldPmAbs .curlcntr a24) ∧
    refusedHere (.ldDmPost cond c .curlcntr i m) ∧ refusedHere (.ldPmPost cond c .curlcntr i m) ∧
    refusedHere (.ldDmPre cond c .curlcntr m i) ∧ refusedHere (.ldPmPre cond c .curlcntr m i)

/-- R393 to R396: stores. The register as it was at the start goes to the word at I (post-modified), at I + M, or at
the address in the instruction; every other byte of memory stays. R105: a store to an unmapped address faults.
Choices of the model or the spec: The operand orders and the pre-modify form are the spec's general knowledge
(R393, R395); widths are log entry 46; the fault is the spec's decision D5. -/
def Obligations.StoreResults : Prop :=
  ∀ (s : State) (cond : Cond) (c : Option Compute) (src : Ureg) (i m : Fin 8) (a32 : W32) (a24 : A24) (e : Effect),
    flowReady s = true → slotEffect c s = .ok e → givesRead s src = true →
    let v := readUreg s src
    let mapped := fun (a : Nat) => regionOf s.cfg a ≠ .unmapped
    let stored := fun (k : Instr) (sp : Space) (a : Nat) (f : State → Res State) =>
      transfers k s f ∧ ∀ u, exec k s = .next u → sameMemoryBut s u sp a
    (mapped a32.toNat → stored (.stDmAbs a32 src) .dm a32.toNat fun t => writeWord t .dm false a32.toNat v) ∧
    (mapped a24.toNat → stored (.stPmAbs a24 src) .pm a24.toNat fun t => writeWord t .pm (wide src) a24.toNat v) ∧
    (mayTest cond s = true → condition s cond = true →
      (mapped (dag1Address s i).toNat → stored (.stDmPost cond c i m src) .dm (dag1Address s i).toNat fun t =>
        (writeWord (applyEffect s t e) .dm false (dag1Address s i).toNat v).map fun t => updateDag1 s t i m) ∧
      (mapped (dag2Address s i).toNat → stored (.stPmPost cond c i m src) .pm (dag2Address s i).toNat fun t =>
        (writeWord (applyEffect s t e) .pm (wide src) (dag2Address s i).toNat v).map fun t => updateDag2 s t i m) ∧
      (let a := (dag1Reg s .i i + dag1Reg s .m m).toNat
       mapped a → stored (.stDmPre cond c m i src) .dm a fun t => writeWord (applyEffect s t e) .dm false a v) ∧
      (let a := (dag2Reg s .i i + dag2Reg s .m m).toNat
       mapped a → stored (.stPmPre cond c m i src) .pm a fun t => writeWord (applyEffect s t e) .pm (wide src) a v)) ∧
    (let stops := fun (k : Instr) (a : Nat) => regionOf s.cfg a = .unmapped → exec k s = .fault .unmapped
     stops (.stDmAbs a32 src) a32.toNat ∧ stops (.stPmAbs a24 src) a24.toNat ∧
     (mayTest cond s = true → condition s cond = true →
      stops (.stDmPost cond c i m src) (dag1Address s i).toNat ∧ stops (.stPmPost cond c i m src) (dag2Address s i).toNat ∧
      stops (.stDmPre cond c m i src) (dag1Reg s .i i + dag1Reg s .m m).toNat ∧
      stops (.stPmPre cond c m i src) (dag2Reg s .i i + dag2Reg s .m m).toNat)) ∧
    (mayTest cond s = true → condition s cond = false →
      completes (.stDmPost cond c i m src) s id ∧ completes (.stPmPost cond c i m src) s id ∧
      completes (.stDmPre cond c m i src) s id ∧ completes (.stPmPre cond c m i src) s id)

/-- R397, R25, R112: the two-move form. Both reads come before any write; the DM load wins a register, then the PM
load, then the computation; both index registers are post-modified; a store takes the register as it was. Memory
changes at the stored words only, the sequencer, the flags and the MR registers as by the computation alone. Two
accesses to one word of memory are refused. Choices of the model or the spec: Which accesses count as one word is
the spec's U12 as log entry 28 reads it; the condition is log entry 45. -/
def Obligations.DualMoveResults : Prop :=
  ∀ (s : State) (cond : Cond) (c : Option Compute) (dm pm : DualSide) (e : Effect) (dv pv : W48),
    flowReady s = true → mayTest cond s = true → slotEffect c s = .ok e →
    let da := (dag1Address s dm.i).toNat
    let pa := (dag2Address s pm.i).toNat
    (dm.store = false → readWord s .dm false da = .ok dv) → (dm.store = true → regionOf s.cfg da ≠ .unmapped) →
    (pm.store = false → readWord s .pm false pa = .ok pv) → (pm.store = true → regionOf s.cfg pa ≠ .unmapped) →
    (condition s cond = false → completes (.dualMove cond c dm pm) s id) ∧
    (condition s cond = true → oneWord s.cfg da pa (dm.store && pm.store) = true →
      exec (.dualMove cond c dm pm) s = .refused .sameWord) ∧
    (condition s cond = true → oneWord s.cfg da pa (dm.store && pm.store) = false →
      ∃ t u, sequenced s = .ok t ∧ t = sequencedTo s t ∧ exec (.dualMove cond c dm pm) s = .next u ∧
      -- the data memory after the stores, the DM one first
      (let m1 := if dm.store = true then storeWord s .dm false da (bus40 (reg s dm.reg)) else s
       let m2 := if pm.store = true then storeWord m1 .pm false pa (bus40 (reg s pm.reg)) else m1
       u = { updateDag2 s (updateDag1 s (applyEffect s t e) dm.i dm.m) pm.i pm.m with
         rf := u.rf, mem := m2.mem, dirty := m2.dirty, rewidth := m2.rewidth }) ∧
      (∀ k, (dm.store = true → k < (storedBytes s.cfg .dm da).1 ∨
            (storedBytes s.cfg .dm da).1 + (storedBytes s.cfg .dm da).2 ≤ k) →
        (pm.store = true → k < (storedBytes s.cfg .pm pa).1 ∨
            (storedBytes s.cfg .pm pa).1 + (storedBytes s.cfg .pm pa).2 ≤ k) → u.mem.read k = s.mem.read k) ∧
      (dm.store = false → u.rf.get (regIdx s dm.reg) = low40 dv) ∧
      (pm.store = false → dm.store = true ∨ dm.reg ≠ pm.reg → u.rf.get (regIdx s pm.reg) = low40 pv) ∧
      (∀ k, (dm.store = false → regIdx s dm.reg ≠ k) → (pm.store = false → regIdx s pm.reg ≠ k) →
        u.rf.get k = (applyEffect s t e).rf.get k))

/-- What a write of a universal register lands in, and that nothing else changes (R34, R37 to R40, R400, R402, R404,
R593): of the system registers only the one written, and with IMASKP the bits of IRPTL that it covers; the value
from before the instruction is kept for the effect latency. Choices of the model or the spec: Log entries 12, 13,
14, 18, 19, 22, 30, 39 and 50 name the model's choices in it. -/
def Obligations.RegisterWriteLands : Prop :=
  ∀ (s t u : State) (dst : Ureg) (v : W48) (src : Source), putUreg s t dst v src = .ok u →
    match dst with
    | .r n => u = { t with rf := u.rf } ∧ u.rf.get (regIdx s n) = low40 v ∧ sameRegsBut s t u [n]
    | .dag1 k n => u = { t with dag1 := u.dag1 } ∧ (dagFile u.dag1 k).get (dag1Idx s n) = low32 v ∧
        (k = .b → u.dag1.i.get (dag1Idx s n) = low32 v) ∧
        ∀ (k' : DagKind) (j : Fin 16), (j ≠ dag1Idx s n ∨ (k' ≠ k ∧ ¬(k = .b ∧ k' = .i))) →
          (dagFile u.dag1 k').get j = (dagFile t.dag1 k').get j
    | .dag2 k n => u = { t with dag2 := u.dag2 } ∧ (dagFile u.dag2 k).get (dag2Idx s n) = (low32 v).setWidth 24 ∧
        (k = .b → u.dag2.i.get (dag2Idx s n) = (low32 v).setWidth 24) ∧
        ∀ (k' : DagKind) (j : Fin 16), (j ≠ dag2Idx s n ∨ (k' ≠ k ∧ ¬(k = .b ∧ k' = .i))) →
          (dagFile u.dag2 k').get j = (dagFile t.dag2 k').get j
    | .px => u = { t with px := u.px } ∧ low40 u.px = low40 v ∧ (src = .programMemory → u.px = v)
    | .px1 => u = { t with px := u.px } ∧ u.px.extractLsb' 0 16 = (low32 v).setWidth 16 ∧ low32 u.px = low32 t.px
    | .px2 => u = { t with px := u.px } ∧ low32 u.px = low32 v ∧ u.px.extractLsb' 0 16 = t.px.extractLsb' 0 16
    | .faddr => False
    | .daddr => False
    | .pc => False
    | .pcstk => u = { t with pcs := u.pcs, endCalls := u.endCalls } ∧
        ∀ k : Fin 30, (k.val + 1 ≠ s.pcstkp.toNat → u.pcs.get k = t.pcs.get k ∧ u.endCalls.get k = t.endCalls.get k) ∧
          (k.val + 1 = s.pcstkp.toNat → u.pcs.get k = (low32 v).setWidth 24 ∧
            u.endCalls.get k = (t.endCalls.get k && t.pcs.get k == (low32 v).setWidth 24))
    | .pcstkp => u = { t with pcstkp := u.pcstkp, latentPcstkp := u.latentPcstkp } ∧
        (readPcstkp s = 31 → u = t) ∧
        (readPcstkp s ≠ 31 → u.pcstkp = (low32 v).setWidth 5 ∧ u.latentPcstkp = some s.pcstkp)
    | .laddr => u = { t with las := u.las, lens := u.lens } ∧
        ∀ k : Fin 6, u.las.get k = (if k.val + 1 = s.lsp.val then low32 v else t.las.get k) ∧
          u.lens.get k = if k.val + 1 = s.lsp.val then 0 else t.lens.get k
    | .curlcntr => u = { t with lcs := u.lcs, counterLoaded := decide (src ≠ .register) } ∧
        ∀ k : Fin 7, (k.val + 1 ≠ s.lsp.val → u.lcs.get k = t.lcs.get k) ∧
          ∀ l, loopTop s = some l → k.val + 1 = s.lsp.val →
            (l.kind = 0 → u.lcs.get k = t.lcs.get k) ∧
            (l.kind ≠ 0 → countsHere s l = false → u.lcs.get k = low32 v)
    | .lcntr => u = { t with lcs := u.lcs } ∧
        ∀ k : Fin 7, u.lcs.get k = if k = s.lsp ∧ s.lsp.val < 6 then low32 v else t.lcs.get k
    | .sys .mode1 => u = { t with mode1 := low32 v, latent := (.mode1, s.mode1) :: t.latent }
    | .sys .mode2 => u = { t with mode2 := low32 v, latent := (.mode2, s.mode2) :: t.latent }
    | .sys .imask => u = { t with imask := low32 v, latent := (.imask, s.imask) :: t.latent }
    | .sys .irptl => u = { t with irptl := u.irptl, latent := (.irptl, s.irptl) :: t.latent } ∧
        ∀ k < 32, u.irptl.getLsbD k = ((low32 v).getLsbD k && !t.imaskp.getLsbD k) ∧
          ((low32 v).getLsbD k = true → k ≠ 0 ∧ k ≠ 1 ∧ k ≠ 2 ∧ k ≠ 9)
    | .sys .imaskp => u = { t with imaskp := low32 v, irptl := u.irptl, latent := (.imaskp, s.imaskp) :: t.latent } ∧
        ∀ k < 32, u.irptl.getLsbD k = (t.irptl.getLsbD k && !(low32 v).getLsbD k)
    | .sys .astat => u = { t with astat := u.astat, latent := (.astat, s.astat) :: t.latent } ∧
        ∀ k < 32, (readSreg u .astat).getLsbD k =
          if 19 ≤ k ∧ k ≤ 22 then t.flagIn.getLsbD (k - 19) else (low32 v).getLsbD k
    | .sys .stky => u = { t with stky := u.stky, latent := (.stky, s.stky) :: t.latent } ∧
        ∀ k < 32, k ≠ 21 → k ≠ 22 → k ≠ 24 → k ≠ 26 → (readSreg u .stky).getLsbD k = (low32 v).getLsbD k
    | .sys .ustat1 => u = { t with ustat1 := low32 v }
    | .sys .ustat2 => u = { t with ustat2 := low32 v }
    | .tcount => u = { t with tcount := low32 v }
    | .tperiod => u = { t with tperiod := low32 v }

/-- R32, R34, R36, R37, R39, R41, R47, R50, R52, R58, R107, R404: what a read of each universal register gives: of the
sequencer's registers and of the status bits that follow the stacks and the pins; of the mode, interrupt, user
status and timer registers, the stored word; of the DAG registers, the one of the set that MODE1 selects, 24 bits
with zeros above; of PX its 48 bits and of PX1 and PX2 its parts. All but PX and the data registers come in bits
47 to 16 of the bus. Right after a write IMASKP and PCSTKP read the old or the new value (R595). Choices of the
model or the spec: The positions and bank bits are the spec's general knowledge (log entry 11), what is computed
at a read log entry 50. -/
def Obligations.RegisterReadsFollowMachine : Prop :=
  ∀ s : State,
    low32 (readUreg s .pc) = s.pc.setWidth 32 ∧
    (sequential s = true → low32 (readUreg s .daddr) = (s.pc + 1).setWidth 32 ∧
      low32 (readUreg s .faddr) = (s.pc + 2).setWidth 32) ∧
    (∀ a, pcTop s = some a → inShortBody s = false → low32 (readUreg s .pcstk) = a.setWidth 32) ∧
    (s.latentPcstkp = none → low32 (readUreg s .pcstkp) = s.pcstkp.setWidth 32) ∧
    (s.lsp.val = 0 → inShortBody s = false →
      low32 (readUreg s .laddr) = 0xFFFFFFFF ∧ low32 (readUreg s .curlcntr) = 0xFFFFFFFF) ∧
    (∀ l, loopTop s = some l → inShortBody s = false → low32 (readUreg s .curlcntr) = l.count) ∧
    (s.lsp.val < 6 → inShortBody s = false → low32 (readUreg s .lcntr) = s.lcs.get s.lsp) ∧
    (let k := low32 (readUreg s (.sys .stky))
     (s.latentPcstkp = none →
       k.getLsbD 21 = decide (29 ≤ s.pcstkp.toNat) ∧ k.getLsbD 22 = decide (s.pcstkp = 0)) ∧
     k.getLsbD 24 = decide (s.sts = []) ∧ k.getLsbD 26 = decide (s.lsp.val = 0)) ∧
    (∀ n < 4, (low32 (readUreg s (.sys .astat))).getLsbD (19 + n) = s.flagIn.getLsbD n) ∧
    (∀ n, readUreg s (.r n) = bus40 (reg s n)) ∧ readUreg s .px = s.px ∧
    -- every other register: 32 bits in bits 47 to 16 of the bus, zeros below
    (∀ u : Ureg, u ≠ .px → (∀ n, u ≠ .r n) → readUreg s u = bus32 (low32 (readUreg s u))) ∧
    low32 (readUreg s .px1) = (s.px.extractLsb' 0 16).setWidth 32 ∧ low32 (readUreg s .px2) = s.px.extractLsb' 16 32 ∧
    low32 (readUreg s (.sys .mode1)) = s.mode1 ∧ low32 (readUreg s (.sys .mode2)) = s.mode2 ∧
    low32 (readUreg s (.sys .irptl)) = s.irptl ∧ low32 (readUreg s (.sys .imask)) = s.imask ∧
    low32 (readUreg s (.sys .ustat1)) = s.ustat1 ∧ low32 (readUreg s (.sys .ustat2)) = s.ustat2 ∧
    low32 (readUreg s .tcount) = s.tcount ∧ low32 (readUreg s .tperiod) = s.tperiod ∧
    (s.latent = [] → low32 (readUreg s (.sys .imaskp)) = s.imaskp) ∧
    (∀ old, s.latent.lookup .imaskp = some old →
      low32 (readUreg s (.sys .imaskp)) = old ∨ low32 (readUreg s (.sys .imaskp)) = s.imaskp) ∧
    (∀ old, s.latentPcstkp = some old → low32 (readUreg s .pcstkp) = old.setWidth 32 ∨
      low32 (readUreg s .pcstkp) = s.pcstkp.setWidth 32) ∧
    (∀ n < 32, ¬(19 ≤ n ∧ n ≤ 22) → (low32 (readUreg s (.sys .astat))).getLsbD n = s.astat.getLsbD n) ∧
    (∀ n < 32, n ≠ 21 → n ≠ 22 → n ≠ 24 → n ≠ 26 →
      (low32 (readUreg s (.sys .stky))).getLsbD n = s.stky.getLsbD n) ∧
    (∀ k : Fin 6, k.val + 1 = s.lsp.val → inShortBody s = false → low32 (readUreg s .laddr) = s.las.get k) ∧
    ∀ (k : DagKind) (n : Fin 8),
      low32 (readUreg s (.dag1 k n)) = (dagFile s.dag1 k).get (dag1Idx s n) ∧
      low32 (readUreg s (.dag2 k n)) = ((dagFile s.dag2 k).get (dag2Idx s n)).setWidth 32 ∧
      (dag1Idx s n).val = n.val + (if bitOf (effMode1 s) (if n.val < 4 then 4 else 3) = true then 8 else 0) ∧
      (dag2Idx s n).val = n.val + (if bitOf (effMode1 s) (if n.val < 4 then 6 else 5) = true then 8 else 0)

/-- R399 to R401, R509: the address of a post-modify access through I0 has its bits reversed under MODE1.BR0, through
I8 under BR8; other index registers never. Post-modify: With length 0 the index is I + M; in a circular buffer the
new index stays in the buffer and is I + M, or I + M one length back or on; wrapping sets the STKY bit and
requests the interrupt for I7 only. Choices of the model or the spec: The wrap, bit reversal and the STKY bits are
the spec's general knowledge (R400, R401, log entry 11). -/
def Obligations.AddressGenerationResults : Prop :=
  ∀ (s t : State) (i m : Fin 8),
    let u := updateDag1 s t i m
    let b : Int := (dag1Reg s .b i).toNat
    let l : Int := (dag1Reg s .l i).toNat
    let old : Int := (dag1Reg s .i i).toNat
    let by' : Int := (dag1Reg s .m m).toInt
    let new := u.dag1.i.get (dag1Idx s i)
    u = { t with dag1 := { t.dag1 with i := u.dag1.i }, stky := u.stky, irptl := u.irptl } ∧
    (∀ k < 32, (dag1Address s i).getLsbD k =
      (dag1Reg s .i i).getLsbD (if i = 0 ∧ bitOf (effMode1 s) 1 = true then 31 - k else k)) ∧
    (∀ k < 24, (dag2Address s i).getLsbD k =
      (dag2Reg s .i i).getLsbD (if i = 0 ∧ bitOf (effMode1 s) 0 = true then 23 - k else k)) ∧
    (∀ j, j ≠ dag1Idx s i → u.dag1.i.get j = t.dag1.i.get j) ∧
    (i ≠ 7 → u.stky = t.stky ∧ u.irptl = t.irptl) ∧
    (l = 0 → new = dag1Reg s .i i + dag1Reg s .m m ∧ u.stky = t.stky ∧ u.irptl = t.irptl) ∧
    (l ≠ 0 → |by'| ≤ l → b ≤ old → old < b + l → b + l ≤ 2 ^ 32 →
      b ≤ (new.toNat : Int) ∧ (new.toNat : Int) < b + l ∧ ((new.toNat : Int) - (old + by')) % l = 0 ∧
      (i = 7 → b ≤ old + by' → old + by' < b + l → u.stky = t.stky ∧ u.irptl = t.irptl) ∧
      (i = 7 → ¬(b ≤ old + by' ∧ old + by' < b + l) →
        u.stky = t.stky ||| 0x00020000 ∧ u.irptl = t.irptl ||| (0x00200000 &&& ~~~t.imaskp))) ∧
    -- the same for DAG2, whose I15 sets CB15S and requests CB15I
    (let w := updateDag2 s t i m
     let c : Int := (dag2Reg s .b i).toNat
     let n : Int := (dag2Reg s .l i).toNat
     let was : Int := (dag2Reg s .i i).toNat
     let step : Int := (dag2Reg s .m m).toInt
     let now := w.dag2.i.get (dag2Idx s i)
     w = { t with dag2 := { t.dag2 with i := w.dag2.i }, stky := w.stky, irptl := w.irptl } ∧
     (∀ j, j ≠ dag2Idx s i → w.dag2.i.get j = t.dag2.i.get j) ∧
     (i ≠ 7 → w.stky = t.stky ∧ w.irptl = t.irptl) ∧
     (n = 0 → now = dag2Reg s .i i + dag2Reg s .m m ∧ w.stky = t.stky ∧ w.irptl = t.irptl) ∧
     (n ≠ 0 → |step| ≤ n → c ≤ was → was < c + n → c + n ≤ 2 ^ 24 →
       c ≤ (now.toNat : Int) ∧ (now.toNat : Int) < c + n ∧ ((now.toNat : Int) - (was + step)) % n = 0 ∧
       (i = 7 → c ≤ was + step → was + step < c + n → w.stky = t.stky ∧ w.irptl = t.irptl) ∧
       (i = 7 → ¬(c ≤ was + step ∧ was + step < c + n) →
         w.stky = t.stky ||| 0x00040000 ∧ w.irptl = t.irptl ||| (0x00400000 &&& ~~~t.imaskp))))

/-! Program flow. -/

/-- R430 to R433, R438, R439: jumps. The computation beside the jump happens when it is taken; JUMP (CI) besides ends
the routine of the highest priority in service: that bit of IMASKP and of IRPTL is cleared (right after a write of
IMASKP the routine is chosen by the old or the new value, R593). Under a false condition the sequencing alone
happens. JUMP (LA) pops the loop stacks and the PC stack once and jumps. Choices of the model or the spec: (CI) is
log entry 41, its latency log entry 10, the loop restrictions are log entries 23 and 25. -/
def Obligations.JumpResults : Prop :=
  ∀ (s : State) (cond : Cond) (c : Option Compute) (db : Bool) (e : Effect) (addr off : A24) (m i : Fin 8) (tg : Target),
    flowReady s = true → branchFree s = true → mayTest cond s = true → slotEffect c s = .ok e →
    let far := fun (k : Instr) (j : A24) =>
      intoLoopEnd s j = false → completes k s fun t => branched s (applyEffect s t e) j db
    let ind := dag2Reg s .i i + dag2Reg s .m m
    let j := match tg with
      | .abs a => a
      | .rel o => s.pc + o
      | .ind m i => dag2Reg s .i i + dag2Reg s .m m
    (condition s cond = true →
      far (.jumpAbs cond addr db c) addr ∧ far (.jumpRel cond off db c) (s.pc + off) ∧
      far (.jumpInd cond m i db c) ind ∧
      (readImaskp s = 0 → far (.jumpCi cond tg db c) j) ∧
      (∀ b < 32, bitOf (readImaskp s) b = true → (∀ k < b, bitOf (readImaskp s) k = false) → intoLoopEnd s j = false →
        completes (.jumpCi cond tg db c) s fun t =>
          branched s { applyEffect s t e with
            imaskp := s.imaskp &&& ~~~bitMask b, irptl := s.irptl &&& ~~~bitMask b } j db)) ∧
    (condition s cond = false →
      completes (.jumpAbs cond addr db c) s (fun t => notTaken s t db) ∧
      completes (.jumpRel cond off db c) s (fun t => notTaken s t db) ∧
      completes (.jumpInd cond m i db c) s (fun t => notTaken s t db) ∧
      completes (.jumpCi cond tg db c) s (fun t => notTaken s t db) ∧
      ∀ ci, completes (.jumpLa cond tg db ci c) s (fun t => notTaken s t db)) ∧
    (∀ o, condition s cond = true → popReady s = true → sequenced s = .ok o → 0 < o.lsp.val → popReady o = true →
      (∀ p, popLoops o = .ok p → abortTarget p j = .ok ()) →
      ∀ ci, ∃ u, exec (.jumpLa cond tg db ci c) s = .next u ∧
        u.lsp.val + 1 = o.lsp.val ∧ u.pcstkp = o.pcstkp - 1 ∧
        u = { branched s (applyEffect s o e) j db with
          lsp := u.lsp, pcstkp := u.pcstkp, imaskp := u.imaskp, irptl := u.irptl } ∧
        (ci = false ∨ readImaskp s = 0 → u.imaskp = s.imaskp ∧ u.irptl = s.irptl) ∧
        ∀ b < 32, ci = true → bitOf (readImaskp s) b = true → (∀ k < b, bitOf (readImaskp s) k = false) →
          u.imaskp = s.imaskp &&& ~~~bitMask b ∧ u.irptl = s.irptl &&& ~~~bitMask b)

/-- R434: calls push the address after the call (of the next instruction, so the top of a loop that loops back), or
for a delayed call the third after it, and branch; the entry is marked when the call stands among the last three
instructions of a loop, and a return to it then takes RTS (LR) (R449). Choices of the model or the spec: The
return address at a loop's end is log entry 26, the mark of an entry log entry 24, the loop restrictions are log
entries 23 and 25. -/
def Obligations.CallResults : Prop :=
  (∀ (s t : State) (a : A24),
    let u := pushCall s t a
    u = { pushPc t a with endCalls := u.endCalls } ∧
    ∀ k : Fin 30, u.endCalls.get k =
      if k.val = t.pcstkp.toNat then atLoopEnd s else (pushPc t a).endCalls.get k) ∧
  ∀ (s : State) (cond : Cond) (c : Option Compute) (db : Bool) (e : Effect) (addr off : A24) (m i : Fin 8),
    flowReady s = true → callFree s db = true → mayTest cond s = true → slotEffect c s = .ok e →
    s.latentPcstkp = none →
    let call := fun (k : Instr) (j : A24) => intoLoopEnd s j = false →
      completes k s fun t =>
        branched s (pushCall s (applyEffect s t e) (if db = true then s.pc + 3 else t.pc)) j db
    (condition s cond = true →
      call (.callAbs cond addr db c) addr ∧ call (.callRel cond off db c) (s.pc + off) ∧
      call (.callInd cond m i db c) (dag2Reg s .i i + dag2Reg s .m m)) ∧
    (condition s cond = false →
      completes (.callAbs cond addr db c) s (fun t => notTaken s t db) ∧
      completes (.callRel cond off db c) s (fun t => notTaken s t db) ∧
      completes (.callInd cond m i db c) s (fun t => notTaken s t db))

/-- R435 to R437, R449, R517, R523: RTS and RTS (LR) go to the top of the PC stack and pop it (from the overflowed
stack they go on with an address and a pointer that are not stated, on the empty one they are refused); a plain
RTS and an RTI to one of the last two instructions of any active counter-based loop are refused, and so they are
from a CALL among the last three instructions of a loop, from which only RTS (LR) returns. RTI returns, and for
the lowest-numbered set bit of IMASKP clears it and the same bit of IRPTL and, for bits 4 to 8 and 23, restores
ASTAT (but for the flag inputs) and MODE1 from the status stack; right after a write of IMASKP the routine is
chosen by the old or the new value (R593). Choices of the model or the spec: The refusal of RTS is the spec's
decision D29, that of RTI its U33 (log entry 24), as is how a return from a CALL at a loop's end is told; effect
latency of what is restored is log entry 40, that of IMASKP log entry 10; the empty stack is the spec's U9, the
overflowed one log entry 30. -/
def Obligations.ReturnResults : Prop :=
  (∀ (s : State) (cond : Cond) (c : Option Compute) (db : Bool) (e : Effect), flowReady s = true → branchFree s = true →
    mayTest cond s = true → slotEffect c s = .ok e → condition s cond = true → s.latentPcstkp = none →
    (s.pcstkp = 31 → ∃ (j : A24) (p : BitVec 5),
      (completes (.rts cond db c) s fun t => branched s { applyEffect s t e with pcstkp := p } j db) ∧
      (completes (.rtsLr cond db c) s fun t => branched s { applyEffect s t e with pcstkp := p } j db) ∧
      (readImaskp s = 0 →
        completes (.rti cond db c) s fun t => branched s { applyEffect s t e with pcstkp := p } j db)) ∧
    (s.pcstkp = 0 → exec (.rts cond db c) s = .refused .emptyStackPop ∧
      exec (.rtsLr cond db c) s = .refused .emptyStackPop ∧ exec (.rti cond db c) s = .refused .emptyStackPop)) ∧
  ∀ (s : State) (cond : Cond) (c : Option Compute) (db : Bool) (e : Effect) (j : A24) (b : Nat),
    flowReady s = true → branchFree s = true → mayTest cond s = true → slotEffect c s = .ok e →
    popReady s = true → pcTop s = some j →
    (condition s cond = false →
      completes (.rts cond db c) s (fun t => notTaken s t db) ∧
      completes (.rtsLr cond db c) s (fun t => notTaken s t db) ∧
      completes (.rti cond db c) s (fun t => notTaken s t db)) ∧
    (condition s cond = true →
      completes (.rtsLr cond db c) s fun t => branched s { applyEffect s t e with pcstkp := s.pcstkp - 1 } j db) ∧
    (condition s cond = true → needsLr s = true →
      exec (.rts cond db c) s = .refused .plainReturnIntoLoop ∧
      exec (.rti cond db c) s = .refused .plainReturnIntoLoop) ∧
    (condition s cond = true → needsLr s = false →
      (completes (.rts cond db c) s fun t => branched s { applyEffect s t e with pcstkp := s.pcstkp - 1 } j db) ∧
      (readImaskp s = 0 →
        completes (.rti cond db c) s fun t => branched s { applyEffect s t e with pcstkp := s.pcstkp - 1 } j db) ∧
      (b < 32 → bitOf (readImaskp s) b = true → (∀ k < b, bitOf (readImaskp s) k = false) →
        (pushesStatus b = false →
          completes (.rti cond db c) s fun t =>
            branched s { applyEffect s t e with
              pcstkp := s.pcstkp - 1, imaskp := s.imaskp &&& ~~~bitMask b, irptl := s.irptl &&& ~~~bitMask b } j db) ∧
        (∀ a m rest, pushesStatus b = true → s.sts = (a, m) :: rest →
          completes (.rti cond db c) s fun t =>
            { branched s { applyEffect s t e with
                pcstkp := s.pcstkp - 1, imaskp := s.imaskp &&& ~~~bitMask b, irptl := s.irptl &&& ~~~bitMask b } j db with
              astat := a &&& ~~~flagInMask, mode1 := m, sts := rest
              latent := if db = true then [(.mode1, s.mode1), (.astat, s.astat)] else [] })))

/-- R35 to R37, R40, R41, R441, R442, R508: DO UNTIL pushes the end address, the termination code and the loop type on
the loop address stack, makes the LCNTR slot the loop's count (of a loop that is not counter-based the count is
open, R38), and pushes the address after it on the PC stack; the counted forms, with any termination, first write
LCNTR. On full loop stacks the loop is lost, LSOV set and SOVFI requested. A push on the PC stack: below 30
entries the address becomes the top; the 29th entry and the overflow request SOVFI (dropped while its routine is
in service); an overflow loses the address. Choices of the model or the spec: The layout of LADDR (R37) is the
spec's general knowledge; full stacks are log entry 30, the length log entries 18 and 21, the open count log entry
54. -/
def Obligations.LoopStartResults : Prop :=
  (∀ (s : State) (a : A24),
    let u := pushPc s a
    u = { s with pcs := u.pcs, endCalls := u.endCalls, pcstkp := u.pcstkp, irptl := u.irptl } ∧
    (s.pcstkp.toNat < 30 → u.pcstkp = s.pcstkp + 1 ∧ pcTop u = some a ∧
      ∀ k : Fin 30, (k.val = s.pcstkp.toNat → u.endCalls.get k = false) ∧
        (k.val ≠ s.pcstkp.toNat → u.pcs.get k = s.pcs.get k ∧ u.endCalls.get k = s.endCalls.get k)) ∧
    (30 ≤ s.pcstkp.toNat → u.pcstkp = 31 ∧ u.pcs = s.pcs ∧ u.endCalls = s.endCalls) ∧
    (s.pcstkp = 28 ∨ s.pcstkp = 30 → u.irptl = s.irptl ||| (0x00000008 &&& ~~~s.imaskp)) ∧
    (s.pcstkp ≠ 28 → s.pcstkp ≠ 30 → u.irptl = s.irptl)) ∧
  ∀ (s : State) (addr off : A24) (term : Cond) (v : W32) (src : Ureg),
    flowReady s = true → branchFree s = true → s.latentPcstkp = none →
    let starts := fun (k : Instr) (e : A24) (term : Cond) (count : W32) =>
      let length := if e - s.pc = 1 then 1 else if e - s.pc = 2 then 2 else 3
      s.lsp.val < 6 → endsApart s e = true → ∃ t u n, sequenced s = .ok t ∧ exec k s = .next u ∧
        u = { pushPc t (s.pc + 1) with las := u.las, lens := u.lens, lsp := u.lsp, lcs := u.lcs } ∧
        u.lsp.val = s.lsp.val + 1 ∧
        loopTop u = some ⟨e, Cond.ofCode term.code, if term = .lce then length else 0, n, length⟩ ∧
        (term = .lce → n = count) ∧
        (∀ k : Fin 6, k.val ≠ s.lsp.val → u.las.get k = s.las.get k ∧ u.lens.get k = s.lens.get k) ∧
        (∀ k : Fin 7, k.val ≠ s.lsp.val → u.lcs.get k = s.lcs.get k)
    starts (.doAbs addr term) addr term (s.lcs.get s.lsp) ∧
    starts (.doRel off term) (s.pc + off) term (s.lcs.get s.lsp) ∧
    starts (.doCountImm v ⟨addr, term⟩) addr term v ∧
    (givesRead s src = true → starts (.doCountUreg src ⟨addr, term⟩) addr term (low32 (readUreg s src))) ∧
    (s.lsp.val = 6 → endsApart s addr = true → completes (.doAbs addr term) s fun t =>
      pushPc { t with stky := s.stky ||| 0x02000000, irptl := s.irptl ||| (0x00000008 &&& ~~~s.imaskp) } (s.pc + 1))

/-- R440, U3: in the two locations after a delayed branch, taken or not, every branch is refused, whatever its
condition, and so is every move that writes a register of the PC stack or of the loop stacks; and so are DO UNTIL,
every stack operation and IDLE (on the ADSP-21061 also IDLE16) when the sequencer lets them run. Choices of the
model or the spec: Refusing, also where the branch was not taken, is the spec's U3, which names every stack
operation and the loop-stack registers too (log entry 27). -/
def Obligations.DelaySlotRestrictions : Prop :=
  ∀ (s : State) (cond term : Cond) (c : Option Compute) (db ci : Bool) (a off : A24) (a32 : W32) (m i : Fin 8) (tg : Target)
    (v : W32) (src dst : Ureg) (x y : StackOp), s.slots.contains s.pc = true →
    let refusedHere := fun (k : Instr) => exec k s = .refused .forbiddenInDelaySlot
    refusedHere (.jumpAbs cond a db c) ∧ refusedHere (.jumpRel cond off db c) ∧ refusedHere (.jumpInd cond m i db c) ∧
    refusedHere (.callAbs cond a db c) ∧ refusedHere (.callRel cond off db c) ∧ refusedHere (.callInd cond m i db c) ∧
    refusedHere (.rts cond db c) ∧ refusedHere (.rtsLr cond db c) ∧ refusedHere (.rti cond db c) ∧
    refusedHere (.jumpLa cond tg db ci c) ∧ refusedHere (.jumpCi cond tg db c) ∧
    (dst = .pcstk ∨ dst = .pcstkp ∨ dst = .laddr ∨ dst = .curlcntr ∨ dst = .lcntr →
      refusedHere (.uregMove cond c dst src) ∧ refusedHere (.loadImm dst v) ∧
      refusedHere (.ldDmPost cond c dst i m) ∧ refusedHere (.ldPmPost cond c dst i m) ∧
      refusedHere (.ldDmPre cond c dst m i) ∧ refusedHere (.ldPmPre cond c dst m i) ∧
      refusedHere (.ldDmAbs dst a32) ∧ refusedHere (.ldPmAbs dst a)) ∧
    (flowReady s = true →
      refusedHere (.doAbs a term) ∧ refusedHere (.doRel off term) ∧ refusedHere (.doCountImm v ⟨a, term⟩) ∧
      (givesRead s src = true → refusedHere (.doCountUreg src ⟨a, term⟩)) ∧
      refusedHere (.pushLoop x y) ∧ refusedHere (.popLoop x y) ∧
      refusedHere (.pushSts y) ∧ refusedHere (.popSts y) ∧ refusedHere .pushPcstk ∧ refusedHere .popPcstk ∧
      refusedHere .idle ∧ (s.cfg.part = .adsp21061 → refusedHere .idle16))

/-! Conditions. -/

/-- R421: the conditions of Table 3.2 as an IF reads them when ASTAT and MODE1 were not written just before. Choices
of the model or the spec: The positions of the multiplier's and shifter's flags, the flag inputs and the bus bits
are the spec's general knowledge (log entry 11). -/
def Obligations.ConditionsReadTable : Prop :=
  ∀ s : State, s.latent = [] →
    let a := s.astat
    let sign := if bitOf a 10 then bitOf a 2 && !bitOf a 0
      else xor (bitOf a 2) (bitOf a 1 && !bitOf s.mode1 13)
    let low := sign || (bitOf a 10 && bitOf a 2) || bitOf a 0
    let on := condition s
    on .eq = bitOf a 0 ∧ on .lt = sign ∧ on .le = low ∧ on .ac = bitOf a 3 ∧ on .av = bitOf a 1 ∧ on .mv = bitOf a 7 ∧
    on .ms = bitOf a 6 ∧ on .sv = bitOf a 11 ∧ on .sz = bitOf a 12 ∧ on .flag0 = s.flagIn.getLsbD 0 ∧
    on .flag1 = s.flagIn.getLsbD 1 ∧ on .flag2 = s.flagIn.getLsbD 2 ∧ on .flag3 = s.flagIn.getLsbD 3 ∧
    on .tf = bitOf a 18 ∧ (on .bm = true ↔ bitOf s.mode1 17 = false ∧ bitOf s.mode1 18 = false ∧ s.busMaster = true) ∧
    (inShortBody s = false → (on .lce = false ↔ curlcntr s = 1)) ∧ on .tru = true ∧
    on .ne = !on .eq ∧ on .ge = !sign ∧ on .gt = !low ∧ on .notAc = !on .ac ∧ on .notAv = !on .av ∧
    on .notMv = !on .mv ∧ on .notMs = !on .ms ∧ on .notSv = !on .sv ∧ on .notSz = !on .sz ∧
    on .notFlag0 = !on .flag0 ∧ on .notFlag1 = !on .flag1 ∧ on .notFlag2 = !on .flag2 ∧ on .notFlag3 = !on .flag3 ∧
    on .notTf = !on .tf ∧
    (bitOf s.mode1 17 = false → bitOf s.mode1 18 = false → on .nbm = !s.busMaster)

/-! System registers and stacks. -/

/-- R455 to R459: BIT SET, CLR and TGL write the changed register; BIT TST and XOR write BTF (ASTAT bit 18) alone.
Choices of the model or the spec: BIT TST and XOR are the spec's general knowledge (R458, R459); the bits refused
in IRPTL are its U1 and U31. -/
def Obligations.BitInstructionResults : Prop :=
  ∀ (s : State) (r : Sreg) (v : W32), flowReady s = true →
    let x := readSreg s r
    let writes := fun (k : Instr) (w : W32) => (r = .irptl → w &&& 0x00000207 = 0) →
      transfers k s fun t => putUreg s t (.sys r) (bus32 w) .register
    let tests := fun (k : Instr) (b : Bool) => completes k s fun t =>
      { t with astat := if b then s.astat ||| 0x00040000 else s.astat &&& ~~~0x00040000 }
    writes (.bitSet r v) (x ||| v) ∧ writes (.bitClr r v) (x &&& ~~~v) ∧ writes (.bitTgl r v) (x ^^^ v) ∧
    tests (.bitTst r v) (decide (∀ k : Fin 32, v.getLsbD k = true → x.getLsbD k = true)) ∧
    tests (.bitXor r v) (decide (x = v))

/-- R41, R42, R146, R460 to R465: the stack instructions, alone and combined: the loop stacks first, then the status
stack, then the PC stack, each part as its rule says, and nothing else changes. PUSH LOOP and POP LOOP move both
loop stacks and keep their contents; PUSH STS saves ASTAT and MODE1; POP STS restores them, with the latency of an
explicit write; PUSH PCSTK pushes an entry that is not stated and POP PCSTK pops. A push on full stacks sets the
overflow flag and requests SOVFI; a pop of an empty stack is refused; a pop of the overflowed PC stack leaves a
pointer that is not stated. Choices of the model or the spec: What a pushed level holds and the order of the parts
are log entry 42, full and empty stacks are log entry 30, the restored status is log entry 40. -/
def Obligations.StackInstructionResults : Prop :=
  ∀ (s : State) (a b : StackOp), flowReady s = true → inSlot s = false →
    (atInnerEnd s = false →
      (a = .push → s.sts.length < s.cfg.stsDepth) → (a = .pop → s.sts ≠ []) →
      (b ≠ .none → s.latentPcstkp = none) → (b = .pop → popReady s = true) →
      ∃ free : A24,
        (s.lsp.val < 6 → completes (.pushLoop a b) s fun t => pcsPart free (stsPart s (loopPart t .push) a) b) ∧
        (0 < s.lsp.val → completes (.popLoop a b) s fun t => pcsPart free (stsPart s (loopPart t .pop) a) b) ∧
        (a = .push → completes (.pushSts b) s fun t => pcsPart free (stsPart s t .push) b) ∧
        (a = .pop → completes (.popSts b) s fun t => pcsPart free (stsPart s t .pop) b) ∧
        (b = .push → completes .pushPcstk s fun t => pcsPart free t .push) ∧
        (b = .pop → completes .popPcstk s fun t => pcsPart free t .pop)) ∧
    (s.lsp.val = 6 → atInnerEnd s = false → completes (.pushLoop .none .none) s fun t =>
      { t with stky := s.stky ||| 0x02000000, irptl := s.irptl ||| (0x00000008 &&& ~~~s.imaskp) }) ∧
    (s.cfg.stsDepth ≤ s.sts.length → completes (.pushSts .none) s fun t =>
      { t with stky := s.stky ||| 0x00800000, irptl := s.irptl ||| (0x00000008 &&& ~~~s.imaskp) }) ∧
    (s.lsp.val = 0 → exec (.popLoop a b) s = .refused .emptyStackPop) ∧
    (s.sts = [] → exec (.popSts b) s = .refused .emptyStackPop) ∧
    (s.latentPcstkp = none → s.pcstkp = 31 → ∃ p, completes .popPcstk s fun t => { t with pcstkp := p }) ∧
    (s.latentPcstkp = none → s.pcstkp = 0 → exec .popPcstk s = .refused .emptyStackPop)

/-- R466 to R468: NOP moves the sequencer alone; IDLE stays and keeps where to go on; IDLE16 does the same on the
ADSP-21061 and is an illegal instruction on the other parts. Choices of the model or the spec: That the pc stays
in IDLE is log entry 43, IDLE16 on the other parts log entry 48. -/
def Obligations.IdleNopResults : Prop :=
  ∀ s : State, flowReady s = true →
    completes .nop s id ∧
    (inSlot s = false → completes .idle s fun t => { t with pc := s.pc, idle := some t.pc }) ∧
    (inSlot s = false → s.cfg.part = .adsp21061 → completes .idle16 s fun t => { t with pc := s.pc, idle := some t.pc }) ∧
    (s.cfg.part ≠ .adsp21061 → exec .idle16 s = .fault .illegalInstruction)

end Statements
end

