-- ==== Sys2Proof/Laws/Memory.lean ====
section
/-! SUPPORT. The laws of the byte memory and of the list of written words: what a read gives after a write, and that
every operation keeps the canonical forms. -/

namespace Sys2Proof.Machine

@[simp] theorem Memory.read_nil (a : Nat) : Memory.read [] a = none := rfl

/-- What a key above all listed ones reads. -/
theorem Memory.read_of_risesAbove {m : Memory} {b a : Nat} (h : Memory.risesAbove b m = true) (hab : a ≤ b) :
    Memory.read m a = none := by
  induction m generalizing b with
  | nil => rfl
  | cons c m ih =>
    simp only [Memory.risesAbove, Bool.and_eq_true, decide_eq_true_eq] at h
    have hne : a ≠ c.1 := by omega
    simpa [Memory.read, hne] using ih h.2 (by omega)

/-- A byte reads as written, every other byte as before. -/
theorem Memory.read_write (m : Memory) (a k : Nat) (v : Byte) :
    Memory.read (Memory.write m a v) k = if k = a then some v else Memory.read m k := by
  induction m with
  | nil => simp [Memory.write, Memory.read]
  | cons c m ih =>
    unfold Memory.write
    split
    · simp only [Memory.read]
    · split
      · next h => subst h; simp only [Memory.read]; split <;> rfl
      · next h =>
        simp only [Memory.read, ih]
        split
        · next hk => rw [if_neg (by omega)]
        · rfl

@[simp] theorem Memory.read_write_same (m : Memory) (a : Nat) (v : Byte) :
    Memory.read (Memory.write m a v) a = some v := by simp [Memory.read_write]

/-- The bytes outside a store read as before. -/
theorem Memory.read_writeBytes_outside (m : Memory) (a n v k : Nat) (h : k < a ∨ a + n ≤ k) :
    Memory.read (Memory.writeBytes m a n v) k = Memory.read m k := by
  induction n generalizing m a v with
  | zero => rfl
  | succ n ih =>
    rw [Memory.writeBytes, ih _ _ _ (by omega), Memory.read_write, if_neg (by omega)]

/-- A stored byte reads as its part of the number. -/
theorem Memory.read_writeBytes_inside (m : Memory) (a n v j : Nat) (h : j < n) :
    Memory.read (Memory.writeBytes m a n v) (a + j) = some (BitVec.ofNat 8 (v / 256 ^ j)) := by
  induction n generalizing m a v j with
  | zero => omega
  | succ n ih =>
    rw [Memory.writeBytes]
    cases j with
    | zero =>
      rw [Memory.read_writeBytes_outside _ _ _ _ _ (by omega)]
      simp
    | succ j =>
      have e : a + (j + 1) = a + 1 + j := by omega
      rw [e, ih _ _ _ _ (by omega), Nat.div_div_eq_div_mul, pow_succ, Nat.mul_comm]

/-- Reading `n` bytes depends on those bytes only. -/
theorem Memory.readBytes_congr {m m' : Memory} {a n : Nat}
    (h : ∀ j < n, Memory.read m (a + j) = Memory.read m' (a + j)) :
    Memory.readBytes m a n = Memory.readBytes m' a n := by
  induction n generalizing a with
  | zero => rfl
  | succ n ih =>
    have h0 := h 0 (by omega)
    have hs : Memory.readBytes m (a + 1) n = Memory.readBytes m' (a + 1) n :=
      ih fun j hj => by simpa [Nat.add_assoc, Nat.add_comm 1 j] using h (j + 1) (by omega)
    simp only [Nat.add_zero] at h0
    simp only [Memory.readBytes, h0, hs]

/-- `n` stored bytes read back as the number modulo 256^n. -/
theorem Memory.readBytes_writeBytes (m : Memory) (a n v : Nat) :
    Memory.readBytes (Memory.writeBytes m a n v) a n = some (v % 256 ^ n) := by
  induction n generalizing m a v with
  | zero => simp [Memory.readBytes, Nat.mod_one]
  | succ n ih =>
    have h0 : Memory.read (Memory.writeBytes m a (n + 1) v) a = some (BitVec.ofNat 8 v) := by
      simpa using Memory.read_writeBytes_inside m a (n + 1) v 0 (by omega)
    have h1 : Memory.readBytes (Memory.writeBytes m a (n + 1) v) (a + 1) n = some (v / 256 % 256 ^ n) := by
      rw [Memory.writeBytes, ih]
    simp only [Memory.readBytes, h0, h1]
    congr 1
    rw [pow_succ, Nat.mul_comm (256 ^ n), Nat.mod_mul, BitVec.toNat_ofNat]

/-- A part of what was stored reads back as its part of the number. -/
theorem Memory.readBytes_writeBytes_part (m : Memory) (a n v j k : Nat) (h : j + k ≤ n) :
    Memory.readBytes (Memory.writeBytes m a n v) (a + j) k = some (v / 256 ^ j % 256 ^ k) := by
  induction j generalizing m a n v with
  | zero =>
    have : Memory.readBytes (Memory.writeBytes m a n v) a k = Memory.readBytes (Memory.writeBytes m a k v) a k :=
      Memory.readBytes_congr fun i hi => by
        rw [Memory.read_writeBytes_inside _ _ _ _ _ (by omega), Memory.read_writeBytes_inside _ _ _ _ _ hi]
    simpa [Memory.readBytes_writeBytes] using this
  | succ j ih =>
    obtain ⟨n, rfl⟩ : ∃ p, n = p + 1 := ⟨n - 1, by omega⟩
    have e : a + (j + 1) = a + 1 + j := by omega
    rw [Memory.writeBytes, e, ih _ _ _ _ (by omega), Nat.div_div_eq_div_mul, pow_succ, Nat.mul_comm (256 ^ j)]

/-! The canonical form. -/

theorem Memory.wf_of_risesAbove {m : Memory} {b : Nat} (h : Memory.risesAbove b m = true) : Memory.wf m = true := by
  cases m with
  | nil => rfl
  | cons c m =>
    simp only [Memory.risesAbove, Bool.and_eq_true] at h
    exact h.2

/-- A write above `b` keeps every key above `b`. -/
theorem Memory.risesAbove_write {m : Memory} {b a : Nat} (v : Byte) (h : Memory.risesAbove b m = true) (hab : b < a) :
    Memory.risesAbove b (Memory.write m a v) = true := by
  induction m generalizing b with
  | nil => simp [Memory.write, Memory.risesAbove, hab]
  | cons c m ih =>
    simp only [Memory.risesAbove, Bool.and_eq_true, decide_eq_true_eq] at h
    unfold Memory.write
    split
    · next hlt => simp [Memory.risesAbove, hab, hlt, h.2]
    · split
      · next heq => simp [Memory.risesAbove, heq, h.1, h.2]
      · next hlt hne => simp [Memory.risesAbove, h.1, ih h.2 (by omega)]

/-- Writing a byte keeps the canonical form. -/
theorem Memory.wf_write {m : Memory} (a : Nat) (v : Byte) (h : Memory.wf m = true) :
    Memory.wf (Memory.write m a v) = true := by
  cases m with
  | nil => rfl
  | cons c m =>
    simp only [Memory.wf] at h
    unfold Memory.write
    split
    · next hlt => simp [Memory.wf, Memory.risesAbove, hlt, h]
    · split
      · next heq => simp [Memory.wf, heq, h]
      · next hlt hne => simpa [Memory.wf] using Memory.risesAbove_write v h (by omega)

/-- Storing bytes keeps the canonical form. -/
theorem Memory.wf_writeBytes {m : Memory} (a n v : Nat) (h : Memory.wf m = true) :
    Memory.wf (Memory.writeBytes m a n v) = true := by
  induction n generalizing m a v with
  | zero => exact h
  | succ n ih => exact ih _ _ (Memory.wf_write _ _ h)

/-- Loading cells in any order gives the canonical form. -/
theorem Memory.wf_ofCells (cells : List Host.Cell) : Memory.wf (Memory.ofCells cells) = true := by
  suffices h : ∀ (l : List Host.Cell) (m : Memory), Memory.wf m = true →
      Memory.wf (l.foldl (fun m c => Memory.write m c.1 c.2) m) = true from h cells [] rfl
  intro l
  induction l with
  | nil => exact fun _ h => h
  | cons c l ih => exact fun m h => ih _ (Memory.wf_write _ _ h)

/-- A canonical memory is determined by what its bytes read: equal contents are equal data. -/
theorem Memory.eq_of_reads {m m' : Memory} (h : Memory.wf m = true) (h' : Memory.wf m' = true)
    (hr : ∀ k, Memory.read m k = Memory.read m' k) : m = m' := by
  induction m generalizing m' with
  | nil =>
    cases m' with
    | nil => rfl
    | cons c m' => simpa [Memory.read] using hr c.1
  | cons c m ih =>
    cases m' with
    | nil => simpa [Memory.read] using hr c.1
    | cons d m' =>
      simp only [Memory.wf] at h h'
      have hkey : c.1 = d.1 := by
        rcases Nat.lt_trichotomy c.1 d.1 with hlt | heq | hlt
        · have hc := hr c.1
          simp [Memory.read, Nat.ne_of_lt hlt, Memory.read_of_risesAbove h' (Nat.le_of_lt hlt)] at hc
        · exact heq
        · have hd := hr d.1
          simp [Memory.read, Nat.ne_of_lt hlt, Memory.read_of_risesAbove h (Nat.le_of_lt hlt)] at hd
      have hval : c.2 = d.2 := by simpa [Memory.read, hkey] using hr c.1
      have htail : m = m' := by
        refine ih (Memory.wf_of_risesAbove h) (Memory.wf_of_risesAbove h') fun k => ?_
        by_cases hk : k ≤ c.1
        · rw [Memory.read_of_risesAbove h hk, Memory.read_of_risesAbove h' (hkey ▸ hk)]
        · have := hr k
          simpa [Memory.read, show k ≠ c.1 by omega, show k ≠ d.1 by omega] using this
      obtain ⟨c1, c2⟩ := c
      obtain ⟨d1, d2⟩ := d
      simp only at hkey hval
      rw [hkey, hval, htail]

/-! The list of written words. -/

/-- Every address lies above `a`, and they rise. -/
theorem rises_cons {a : Nat} {l : List Nat} : rises (a :: l) = true ↔ (∀ b ∈ l.head?, a < b) ∧ rises l = true := by
  cases l with
  | nil => simp [rises]
  | cons b l => simp [rises]

theorem insertAddr_head {a : Nat} {l : List Nat} : ∀ b ∈ (insertAddr a l).head?, b = a ∨ b ∈ l.head? := by
  cases l with
  | nil => simp [insertAddr]
  | cons c l =>
    unfold insertAddr
    split
    · simp
    · split <;> simp

/-- Adding an address keeps the list rising. -/
theorem rises_insertAddr (a : Nat) {l : List Nat} (h : rises l = true) : rises (insertAddr a l) = true := by
  induction l with
  | nil => rfl
  | cons b l ih =>
    obtain ⟨hb, hl⟩ := rises_cons.1 h
    unfold insertAddr
    split
    · next hlt => exact rises_cons.2 ⟨by simpa using hlt, h⟩
    · split
      · exact h
      · next hlt hne =>
        refine rises_cons.2 ⟨fun x hx => ?_, ih hl⟩
        rcases insertAddr_head x hx with rfl | hx
        · omega
        · exact hb x hx

/-- A rising list is one in which every address lies below every later one. -/
theorem rises_iff_pairwise {l : List Nat} : rises l = true ↔ l.Pairwise (· < ·) := by
  induction l with
  | nil => simp [rises]
  | cons a l ih =>
    rw [rises_cons, List.pairwise_cons, ih]
    refine and_congr_left fun hl => ⟨fun h b hb => ?_, fun h b hb => h b (List.mem_of_mem_head? hb)⟩
    cases l with
    | nil => simp at hb
    | cons c l =>
      have hc : a < c := h c rfl
      rcases List.mem_cons.1 hb with rfl | hb
      · exact hc
      · exact Nat.lt_trans hc ((List.pairwise_cons.1 hl).1 b hb)

/-- Dropping addresses keeps the list rising. -/
theorem rises_filter (p : Nat → Bool) {l : List Nat} (h : rises l = true) : rises (l.filter p) = true :=
  rises_iff_pairwise.2 ((rises_iff_pairwise.1 h).filter p)

/-- The memory reset leaves is canonical. -/
theorem reset_mem_wf (p : Params) : (State.resetWith p).mem.wf = true := Memory.wf_ofCells p.bootImage

end Sys2Proof.Machine
end

