-- ==== Sys2Proof/Laws/State.lean ====
section
/-! SUPPORT. What each state update leaves in each field: one lemma per field per update, so that no later proof unfolds
a record update; and for the larger updates what they change as a whole. -/

namespace Sys2Proof.Machine

variable (s t : State)

/-! A data register write. -/

@[simp] theorem putReg_cfg (n : Reg) (v : W40) : (putReg s t n v).cfg = t.cfg := rfl
@[simp] theorem putReg_rf (n : Reg) (v : W40) : (putReg s t n v).rf = t.rf.set (regIdx s n).val v (regIdx s n).isLt :=
  rfl
@[simp] theorem putReg_mr (n : Reg) (v : W40) : (putReg s t n v).mr = t.mr := rfl
@[simp] theorem putReg_dag1 (n : Reg) (v : W40) : (putReg s t n v).dag1 = t.dag1 := rfl
@[simp] theorem putReg_dag2 (n : Reg) (v : W40) : (putReg s t n v).dag2 = t.dag2 := rfl
@[simp] theorem putReg_px (n : Reg) (v : W40) : (putReg s t n v).px = t.px := rfl
@[simp] theorem putReg_pc (n : Reg) (v : W40) : (putReg s t n v).pc = t.pc := rfl
@[simp] theorem putReg_dbr (n : Reg) (v : W40) : (putReg s t n v).dbr = t.dbr := rfl
@[simp] theorem putReg_slots (n : Reg) (v : W40) : (putReg s t n v).slots = t.slots := rfl
@[simp] theorem putReg_pcs (n : Reg) (v : W40) : (putReg s t n v).pcs = t.pcs := rfl
@[simp] theorem putReg_endCalls (n : Reg) (v : W40) : (putReg s t n v).endCalls = t.endCalls := rfl
@[simp] theorem putReg_pcstkp (n : Reg) (v : W40) : (putReg s t n v).pcstkp = t.pcstkp := rfl
@[simp] theorem putReg_las (n : Reg) (v : W40) : (putReg s t n v).las = t.las := rfl
@[simp] theorem putReg_lcs (n : Reg) (v : W40) : (putReg s t n v).lcs = t.lcs := rfl
@[simp] theorem putReg_lens (n : Reg) (v : W40) : (putReg s t n v).lens = t.lens := rfl
@[simp] theorem putReg_lsp (n : Reg) (v : W40) : (putReg s t n v).lsp = t.lsp := rfl
@[simp] theorem putReg_tail (n : Reg) (v : W40) : (putReg s t n v).tail = t.tail := rfl
@[simp] theorem putReg_ending (n : Reg) (v : W40) : (putReg s t n v).ending = t.ending := rfl
@[simp] theorem putReg_sts (n : Reg) (v : W40) : (putReg s t n v).sts = t.sts := rfl
@[simp] theorem putReg_mode1 (n : Reg) (v : W40) : (putReg s t n v).mode1 = t.mode1 := rfl
@[simp] theorem putReg_mode2 (n : Reg) (v : W40) : (putReg s t n v).mode2 = t.mode2 := rfl
@[simp] theorem putReg_irptl (n : Reg) (v : W40) : (putReg s t n v).irptl = t.irptl := rfl
@[simp] theorem putReg_imask (n : Reg) (v : W40) : (putReg s t n v).imask = t.imask := rfl
@[simp] theorem putReg_imaskp (n : Reg) (v : W40) : (putReg s t n v).imaskp = t.imaskp := rfl
@[simp] theorem putReg_astat (n : Reg) (v : W40) : (putReg s t n v).astat = t.astat := rfl
@[simp] theorem putReg_stky (n : Reg) (v : W40) : (putReg s t n v).stky = t.stky := rfl
@[simp] theorem putReg_ustat1 (n : Reg) (v : W40) : (putReg s t n v).ustat1 = t.ustat1 := rfl
@[simp] theorem putReg_ustat2 (n : Reg) (v : W40) : (putReg s t n v).ustat2 = t.ustat2 := rfl
@[simp] theorem putReg_tcount (n : Reg) (v : W40) : (putReg s t n v).tcount = t.tcount := rfl
@[simp] theorem putReg_tperiod (n : Reg) (v : W40) : (putReg s t n v).tperiod = t.tperiod := rfl
@[simp] theorem putReg_latent (n : Reg) (v : W40) : (putReg s t n v).latent = t.latent := rfl
@[simp] theorem putReg_latentPcstkp (n : Reg) (v : W40) : (putReg s t n v).latentPcstkp = t.latentPcstkp := rfl
@[simp] theorem putReg_counterLoaded (n : Reg) (v : W40) : (putReg s t n v).counterLoaded = t.counterLoaded := rfl
@[simp] theorem putReg_nonSeq (n : Reg) (v : W40) : (putReg s t n v).nonSeq = t.nonSeq := rfl
@[simp] theorem putReg_idle (n : Reg) (v : W40) : (putReg s t n v).idle = t.idle := rfl
@[simp] theorem putReg_justEntered (n : Reg) (v : W40) : (putReg s t n v).justEntered = t.justEntered := rfl
@[simp] theorem putReg_irqHeld (n : Reg) (v : W40) : (putReg s t n v).irqHeld = t.irqHeld := rfl
@[simp] theorem putReg_flagIn (n : Reg) (v : W40) : (putReg s t n v).flagIn = t.flagIn := rfl
@[simp] theorem putReg_busMaster (n : Reg) (v : W40) : (putReg s t n v).busMaster = t.busMaster := rfl
@[simp] theorem putReg_inputs (n : Reg) (v : W40) : (putReg s t n v).inputs = t.inputs := rfl
@[simp] theorem putReg_mem (n : Reg) (v : W40) : (putReg s t n v).mem = t.mem := rfl
@[simp] theorem putReg_dirty (n : Reg) (v : W40) : (putReg s t n v).dirty = t.dirty := rfl
@[simp] theorem putReg_rewidth (n : Reg) (v : W40) : (putReg s t n v).rewidth = t.rewidth := rfl
@[simp] theorem putReg_drawn (n : Reg) (v : W40) : (putReg s t n v).drawn = t.drawn := rfl

/-! A flag update. -/

@[simp] theorem putFlags_cfg (f : FlagOut) : (putFlags t f).cfg = t.cfg := rfl
@[simp] theorem putFlags_rf (f : FlagOut) : (putFlags t f).rf = t.rf := rfl
@[simp] theorem putFlags_mr (f : FlagOut) : (putFlags t f).mr = t.mr := rfl
@[simp] theorem putFlags_dag1 (f : FlagOut) : (putFlags t f).dag1 = t.dag1 := rfl
@[simp] theorem putFlags_dag2 (f : FlagOut) : (putFlags t f).dag2 = t.dag2 := rfl
@[simp] theorem putFlags_px (f : FlagOut) : (putFlags t f).px = t.px := rfl
@[simp] theorem putFlags_pc (f : FlagOut) : (putFlags t f).pc = t.pc := rfl
@[simp] theorem putFlags_dbr (f : FlagOut) : (putFlags t f).dbr = t.dbr := rfl
@[simp] theorem putFlags_slots (f : FlagOut) : (putFlags t f).slots = t.slots := rfl
@[simp] theorem putFlags_pcs (f : FlagOut) : (putFlags t f).pcs = t.pcs := rfl
@[simp] theorem putFlags_endCalls (f : FlagOut) : (putFlags t f).endCalls = t.endCalls := rfl
@[simp] theorem putFlags_pcstkp (f : FlagOut) : (putFlags t f).pcstkp = t.pcstkp := rfl
@[simp] theorem putFlags_las (f : FlagOut) : (putFlags t f).las = t.las := rfl
@[simp] theorem putFlags_lcs (f : FlagOut) : (putFlags t f).lcs = t.lcs := rfl
@[simp] theorem putFlags_lens (f : FlagOut) : (putFlags t f).lens = t.lens := rfl
@[simp] theorem putFlags_lsp (f : FlagOut) : (putFlags t f).lsp = t.lsp := rfl
@[simp] theorem putFlags_tail (f : FlagOut) : (putFlags t f).tail = t.tail := rfl
@[simp] theorem putFlags_ending (f : FlagOut) : (putFlags t f).ending = t.ending := rfl
@[simp] theorem putFlags_sts (f : FlagOut) : (putFlags t f).sts = t.sts := rfl
@[simp] theorem putFlags_mode1 (f : FlagOut) : (putFlags t f).mode1 = t.mode1 := rfl
@[simp] theorem putFlags_mode2 (f : FlagOut) : (putFlags t f).mode2 = t.mode2 := rfl
@[simp] theorem putFlags_irptl (f : FlagOut) : (putFlags t f).irptl = t.irptl := rfl
@[simp] theorem putFlags_imask (f : FlagOut) : (putFlags t f).imask = t.imask := rfl
@[simp] theorem putFlags_imaskp (f : FlagOut) : (putFlags t f).imaskp = t.imaskp := rfl
@[simp] theorem putFlags_astat (f : FlagOut) : (putFlags t f).astat = f.onAstat t.astat := rfl
@[simp] theorem putFlags_stky (f : FlagOut) : (putFlags t f).stky = t.stky ||| f.sticky := rfl
@[simp] theorem putFlags_ustat1 (f : FlagOut) : (putFlags t f).ustat1 = t.ustat1 := rfl
@[simp] theorem putFlags_ustat2 (f : FlagOut) : (putFlags t f).ustat2 = t.ustat2 := rfl
@[simp] theorem putFlags_tcount (f : FlagOut) : (putFlags t f).tcount = t.tcount := rfl
@[simp] theorem putFlags_tperiod (f : FlagOut) : (putFlags t f).tperiod = t.tperiod := rfl
@[simp] theorem putFlags_latent (f : FlagOut) : (putFlags t f).latent = t.latent := rfl
@[simp] theorem putFlags_latentPcstkp (f : FlagOut) : (putFlags t f).latentPcstkp = t.latentPcstkp := rfl
@[simp] theorem putFlags_counterLoaded (f : FlagOut) : (putFlags t f).counterLoaded = t.counterLoaded := rfl
@[simp] theorem putFlags_nonSeq (f : FlagOut) : (putFlags t f).nonSeq = t.nonSeq := rfl
@[simp] theorem putFlags_idle (f : FlagOut) : (putFlags t f).idle = t.idle := rfl
@[simp] theorem putFlags_justEntered (f : FlagOut) : (putFlags t f).justEntered = t.justEntered := rfl
@[simp] theorem putFlags_irqHeld (f : FlagOut) : (putFlags t f).irqHeld = t.irqHeld := rfl
@[simp] theorem putFlags_flagIn (f : FlagOut) : (putFlags t f).flagIn = t.flagIn := rfl
@[simp] theorem putFlags_busMaster (f : FlagOut) : (putFlags t f).busMaster = t.busMaster := rfl
@[simp] theorem putFlags_inputs (f : FlagOut) : (putFlags t f).inputs = t.inputs := rfl
@[simp] theorem putFlags_mem (f : FlagOut) : (putFlags t f).mem = t.mem := rfl
@[simp] theorem putFlags_dirty (f : FlagOut) : (putFlags t f).dirty = t.dirty := rfl
@[simp] theorem putFlags_rewidth (f : FlagOut) : (putFlags t f).rewidth = t.rewidth := rfl
@[simp] theorem putFlags_drawn (f : FlagOut) : (putFlags t f).drawn = t.drawn := rfl

/-! The note of an explicit write. -/

@[simp] theorem noteWrite_cfg (r : Sreg) (old : W32) : (noteWrite t r old).cfg = t.cfg := rfl
@[simp] theorem noteWrite_rf (r : Sreg) (old : W32) : (noteWrite t r old).rf = t.rf := rfl
@[simp] theorem noteWrite_mr (r : Sreg) (old : W32) : (noteWrite t r old).mr = t.mr := rfl
@[simp] theorem noteWrite_dag1 (r : Sreg) (old : W32) : (noteWrite t r old).dag1 = t.dag1 := rfl
@[simp] theorem noteWrite_dag2 (r : Sreg) (old : W32) : (noteWrite t r old).dag2 = t.dag2 := rfl
@[simp] theorem noteWrite_px (r : Sreg) (old : W32) : (noteWrite t r old).px = t.px := rfl
@[simp] theorem noteWrite_pc (r : Sreg) (old : W32) : (noteWrite t r old).pc = t.pc := rfl
@[simp] theorem noteWrite_dbr (r : Sreg) (old : W32) : (noteWrite t r old).dbr = t.dbr := rfl
@[simp] theorem noteWrite_slots (r : Sreg) (old : W32) : (noteWrite t r old).slots = t.slots := rfl
@[simp] theorem noteWrite_pcs (r : Sreg) (old : W32) : (noteWrite t r old).pcs = t.pcs := rfl
@[simp] theorem noteWrite_endCalls (r : Sreg) (old : W32) : (noteWrite t r old).endCalls = t.endCalls := rfl
@[simp] theorem noteWrite_pcstkp (r : Sreg) (old : W32) : (noteWrite t r old).pcstkp = t.pcstkp := rfl
@[simp] theorem noteWrite_las (r : Sreg) (old : W32) : (noteWrite t r old).las = t.las := rfl
@[simp] theorem noteWrite_lcs (r : Sreg) (old : W32) : (noteWrite t r old).lcs = t.lcs := rfl
@[simp] theorem noteWrite_lens (r : Sreg) (old : W32) : (noteWrite t r old).lens = t.lens := rfl
@[simp] theorem noteWrite_lsp (r : Sreg) (old : W32) : (noteWrite t r old).lsp = t.lsp := rfl
@[simp] theorem noteWrite_tail (r : Sreg) (old : W32) : (noteWrite t r old).tail = t.tail := rfl
@[simp] theorem noteWrite_ending (r : Sreg) (old : W32) : (noteWrite t r old).ending = t.ending := rfl
@[simp] theorem noteWrite_sts (r : Sreg) (old : W32) : (noteWrite t r old).sts = t.sts := rfl
@[simp] theorem noteWrite_mode1 (r : Sreg) (old : W32) : (noteWrite t r old).mode1 = t.mode1 := rfl
@[simp] theorem noteWrite_mode2 (r : Sreg) (old : W32) : (noteWrite t r old).mode2 = t.mode2 := rfl
@[simp] theorem noteWrite_irptl (r : Sreg) (old : W32) : (noteWrite t r old).irptl = t.irptl := rfl
@[simp] theorem noteWrite_imask (r : Sreg) (old : W32) : (noteWrite t r old).imask = t.imask := rfl
@[simp] theorem noteWrite_imaskp (r : Sreg) (old : W32) : (noteWrite t r old).imaskp = t.imaskp := rfl
@[simp] theorem noteWrite_astat (r : Sreg) (old : W32) : (noteWrite t r old).astat = t.astat := rfl
@[simp] theorem noteWrite_stky (r : Sreg) (old : W32) : (noteWrite t r old).stky = t.stky := rfl
@[simp] theorem noteWrite_ustat1 (r : Sreg) (old : W32) : (noteWrite t r old).ustat1 = t.ustat1 := rfl
@[simp] theorem noteWrite_ustat2 (r : Sreg) (old : W32) : (noteWrite t r old).ustat2 = t.ustat2 := rfl
@[simp] theorem noteWrite_tcount (r : Sreg) (old : W32) : (noteWrite t r old).tcount = t.tcount := rfl
@[simp] theorem noteWrite_tperiod (r : Sreg) (old : W32) : (noteWrite t r old).tperiod = t.tperiod := rfl
@[simp] theorem noteWrite_latent (r : Sreg) (old : W32) : (noteWrite t r old).latent = (r, old) :: t.latent := rfl
@[simp] theorem noteWrite_latentPcstkp (r : Sreg) (old : W32) : (noteWrite t r old).latentPcstkp = t.latentPcstkp := rfl
@[simp] theorem noteWrite_counterLoaded (r : Sreg) (old : W32) : (noteWrite t r old).counterLoaded = t.counterLoaded :=
  rfl
@[simp] theorem noteWrite_nonSeq (r : Sreg) (old : W32) : (noteWrite t r old).nonSeq = t.nonSeq := rfl
@[simp] theorem noteWrite_idle (r : Sreg) (old : W32) : (noteWrite t r old).idle = t.idle := rfl
@[simp] theorem noteWrite_justEntered (r : Sreg) (old : W32) : (noteWrite t r old).justEntered = t.justEntered := rfl
@[simp] theorem noteWrite_irqHeld (r : Sreg) (old : W32) : (noteWrite t r old).irqHeld = t.irqHeld := rfl
@[simp] theorem noteWrite_flagIn (r : Sreg) (old : W32) : (noteWrite t r old).flagIn = t.flagIn := rfl
@[simp] theorem noteWrite_busMaster (r : Sreg) (old : W32) : (noteWrite t r old).busMaster = t.busMaster := rfl
@[simp] theorem noteWrite_inputs (r : Sreg) (old : W32) : (noteWrite t r old).inputs = t.inputs := rfl
@[simp] theorem noteWrite_mem (r : Sreg) (old : W32) : (noteWrite t r old).mem = t.mem := rfl
@[simp] theorem noteWrite_dirty (r : Sreg) (old : W32) : (noteWrite t r old).dirty = t.dirty := rfl
@[simp] theorem noteWrite_rewidth (r : Sreg) (old : W32) : (noteWrite t r old).rewidth = t.rewidth := rfl
@[simp] theorem noteWrite_drawn (r : Sreg) (old : W32) : (noteWrite t r old).drawn = t.drawn := rfl

/-! A request latched. -/

@[simp] theorem latch_cfg (b : Nat) : (latch b t).cfg = t.cfg := rfl
@[simp] theorem latch_rf (b : Nat) : (latch b t).rf = t.rf := rfl
@[simp] theorem latch_mr (b : Nat) : (latch b t).mr = t.mr := rfl
@[simp] theorem latch_dag1 (b : Nat) : (latch b t).dag1 = t.dag1 := rfl
@[simp] theorem latch_dag2 (b : Nat) : (latch b t).dag2 = t.dag2 := rfl
@[simp] theorem latch_px (b : Nat) : (latch b t).px = t.px := rfl
@[simp] theorem latch_pc (b : Nat) : (latch b t).pc = t.pc := rfl
@[simp] theorem latch_dbr (b : Nat) : (latch b t).dbr = t.dbr := rfl
@[simp] theorem latch_slots (b : Nat) : (latch b t).slots = t.slots := rfl
@[simp] theorem latch_pcs (b : Nat) : (latch b t).pcs = t.pcs := rfl
@[simp] theorem latch_endCalls (b : Nat) : (latch b t).endCalls = t.endCalls := rfl
@[simp] theorem latch_pcstkp (b : Nat) : (latch b t).pcstkp = t.pcstkp := rfl
@[simp] theorem latch_las (b : Nat) : (latch b t).las = t.las := rfl
@[simp] theorem latch_lcs (b : Nat) : (latch b t).lcs = t.lcs := rfl
@[simp] theorem latch_lens (b : Nat) : (latch b t).lens = t.lens := rfl
@[simp] theorem latch_lsp (b : Nat) : (latch b t).lsp = t.lsp := rfl
@[simp] theorem latch_tail (b : Nat) : (latch b t).tail = t.tail := rfl
@[simp] theorem latch_ending (b : Nat) : (latch b t).ending = t.ending := rfl
@[simp] theorem latch_sts (b : Nat) : (latch b t).sts = t.sts := rfl
@[simp] theorem latch_mode1 (b : Nat) : (latch b t).mode1 = t.mode1 := rfl
@[simp] theorem latch_mode2 (b : Nat) : (latch b t).mode2 = t.mode2 := rfl
@[simp] theorem latch_irptl (b : Nat) : (latch b t).irptl = t.irptl ||| (bitMask b &&& ~~~t.imaskp) := rfl
@[simp] theorem latch_imask (b : Nat) : (latch b t).imask = t.imask := rfl
@[simp] theorem latch_imaskp (b : Nat) : (latch b t).imaskp = t.imaskp := rfl
@[simp] theorem latch_astat (b : Nat) : (latch b t).astat = t.astat := rfl
@[simp] theorem latch_stky (b : Nat) : (latch b t).stky = t.stky := rfl
@[simp] theorem latch_ustat1 (b : Nat) : (latch b t).ustat1 = t.ustat1 := rfl
@[simp] theorem latch_ustat2 (b : Nat) : (latch b t).ustat2 = t.ustat2 := rfl
@[simp] theorem latch_tcount (b : Nat) : (latch b t).tcount = t.tcount := rfl
@[simp] theorem latch_tperiod (b : Nat) : (latch b t).tperiod = t.tperiod := rfl
@[simp] theorem latch_latent (b : Nat) : (latch b t).latent = t.latent := rfl
@[simp] theorem latch_latentPcstkp (b : Nat) : (latch b t).latentPcstkp = t.latentPcstkp := rfl
@[simp] theorem latch_counterLoaded (b : Nat) : (latch b t).counterLoaded = t.counterLoaded := rfl
@[simp] theorem latch_nonSeq (b : Nat) : (latch b t).nonSeq = t.nonSeq := rfl
@[simp] theorem latch_idle (b : Nat) : (latch b t).idle = t.idle := rfl
@[simp] theorem latch_justEntered (b : Nat) : (latch b t).justEntered = t.justEntered := rfl
@[simp] theorem latch_irqHeld (b : Nat) : (latch b t).irqHeld = t.irqHeld := rfl
@[simp] theorem latch_flagIn (b : Nat) : (latch b t).flagIn = t.flagIn := rfl
@[simp] theorem latch_busMaster (b : Nat) : (latch b t).busMaster = t.busMaster := rfl
@[simp] theorem latch_inputs (b : Nat) : (latch b t).inputs = t.inputs := rfl
@[simp] theorem latch_mem (b : Nat) : (latch b t).mem = t.mem := rfl
@[simp] theorem latch_dirty (b : Nat) : (latch b t).dirty = t.dirty := rfl
@[simp] theorem latch_rewidth (b : Nat) : (latch b t).rewidth = t.rewidth := rfl
@[simp] theorem latch_drawn (b : Nat) : (latch b t).drawn = t.drawn := rfl

/-! Moving past an instruction. -/

@[simp] theorem advance_cfg (a : A24) (back : Bool) : (advance s t a back).cfg = t.cfg := rfl
@[simp] theorem advance_rf (a : A24) (back : Bool) : (advance s t a back).rf = t.rf := rfl
@[simp] theorem advance_mr (a : A24) (back : Bool) : (advance s t a back).mr = t.mr := rfl
@[simp] theorem advance_dag1 (a : A24) (back : Bool) : (advance s t a back).dag1 = t.dag1 := rfl
@[simp] theorem advance_dag2 (a : A24) (back : Bool) : (advance s t a back).dag2 = t.dag2 := rfl
@[simp] theorem advance_px (a : A24) (back : Bool) : (advance s t a back).px = t.px := rfl
@[simp] theorem advance_slots (a : A24) (back : Bool) : (advance s t a back).slots = s.slots.filter (· != s.pc) := rfl
@[simp] theorem advance_pcs (a : A24) (back : Bool) : (advance s t a back).pcs = t.pcs := rfl
@[simp] theorem advance_endCalls (a : A24) (back : Bool) : (advance s t a back).endCalls = t.endCalls := rfl
@[simp] theorem advance_pcstkp (a : A24) (back : Bool) : (advance s t a back).pcstkp = t.pcstkp := rfl
@[simp] theorem advance_las (a : A24) (back : Bool) : (advance s t a back).las = t.las := rfl
@[simp] theorem advance_lcs (a : A24) (back : Bool) : (advance s t a back).lcs = t.lcs := rfl
@[simp] theorem advance_lens (a : A24) (back : Bool) : (advance s t a back).lens = t.lens := rfl
@[simp] theorem advance_lsp (a : A24) (back : Bool) : (advance s t a back).lsp = t.lsp := rfl
@[simp] theorem advance_tail (a : A24) (back : Bool) : (advance s t a back).tail = t.tail := rfl
@[simp] theorem advance_ending (a : A24) (back : Bool) : (advance s t a back).ending = t.ending.filter (· != s.pc) :=
  rfl
@[simp] theorem advance_sts (a : A24) (back : Bool) : (advance s t a back).sts = t.sts := rfl
@[simp] theorem advance_mode1 (a : A24) (back : Bool) : (advance s t a back).mode1 = t.mode1 := rfl
@[simp] theorem advance_mode2 (a : A24) (back : Bool) : (advance s t a back).mode2 = t.mode2 := rfl
@[simp] theorem advance_irptl (a : A24) (back : Bool) : (advance s t a back).irptl = t.irptl := rfl
@[simp] theorem advance_imask (a : A24) (back : Bool) : (advance s t a back).imask = t.imask := rfl
@[simp] theorem advance_imaskp (a : A24) (back : Bool) : (advance s t a back).imaskp = t.imaskp := rfl
@[simp] theorem advance_astat (a : A24) (back : Bool) : (advance s t a back).astat = t.astat := rfl
@[simp] theorem advance_stky (a : A24) (back : Bool) : (advance s t a back).stky = t.stky := rfl
@[simp] theorem advance_ustat1 (a : A24) (back : Bool) : (advance s t a back).ustat1 = t.ustat1 := rfl
@[simp] theorem advance_ustat2 (a : A24) (back : Bool) : (advance s t a back).ustat2 = t.ustat2 := rfl
@[simp] theorem advance_tcount (a : A24) (back : Bool) : (advance s t a back).tcount = t.tcount := rfl
@[simp] theorem advance_tperiod (a : A24) (back : Bool) : (advance s t a back).tperiod = t.tperiod := rfl
@[simp] theorem advance_latent (a : A24) (back : Bool) : (advance s t a back).latent = [] := rfl
@[simp] theorem advance_latentPcstkp (a : A24) (back : Bool) : (advance s t a back).latentPcstkp = none := rfl
@[simp] theorem advance_counterLoaded (a : A24) (back : Bool) : (advance s t a back).counterLoaded = false := rfl
@[simp] theorem advance_idle (a : A24) (back : Bool) : (advance s t a back).idle = t.idle := rfl
@[simp] theorem advance_justEntered (a : A24) (back : Bool) : (advance s t a back).justEntered = false := rfl
@[simp] theorem advance_irqHeld (a : A24) (back : Bool) : (advance s t a back).irqHeld = t.irqHeld := rfl
@[simp] theorem advance_flagIn (a : A24) (back : Bool) : (advance s t a back).flagIn = t.flagIn := rfl
@[simp] theorem advance_busMaster (a : A24) (back : Bool) : (advance s t a back).busMaster = t.busMaster := rfl
@[simp] theorem advance_inputs (a : A24) (back : Bool) : (advance s t a back).inputs = t.inputs := rfl
@[simp] theorem advance_mem (a : A24) (back : Bool) : (advance s t a back).mem = t.mem := rfl
@[simp] theorem advance_dirty (a : A24) (back : Bool) : (advance s t a back).dirty = t.dirty := rfl
@[simp] theorem advance_rewidth (a : A24) (back : Bool) : (advance s t a back).rewidth = t.rewidth := rfl
@[simp] theorem advance_drawn (a : A24) (back : Bool) : (advance s t a back).drawn = s.drawn + 1 := rfl

/-! A computation's effect. -/

theorem putRegs_frame (l : List (Reg × W40)) : putRegs s t l = { t with rf := (putRegs s t l).rf } := by
  induction l generalizing t with
  | nil => rfl
  | cons p l ih => rw [putRegs, ih]; rfl

theorem putMr_frame (p : Option (Fin 2 × W80)) : putMr t p = { t with mr := (putMr t p).mr } := by
  cases p <;> rfl

/-- A computation's effect changes data registers, MR registers, ASTAT and STKY only. -/
theorem applyEffect_frame (e : Effect) :
    applyEffect s t e = { t with
      rf := (applyEffect s t e).rf, mr := (applyEffect s t e).mr
      astat := (applyEffect s t e).astat, stky := (applyEffect s t e).stky } := by
  unfold applyEffect
  rw [putMr_frame, putRegs_frame]
  rfl

/-! A computation field by field. -/

@[simp] theorem applyEffect_cfg (e : Effect) : (applyEffect s t e).cfg = t.cfg := by rw [applyEffect_frame]
@[simp] theorem applyEffect_dag1 (e : Effect) : (applyEffect s t e).dag1 = t.dag1 := by rw [applyEffect_frame]
@[simp] theorem applyEffect_dag2 (e : Effect) : (applyEffect s t e).dag2 = t.dag2 := by rw [applyEffect_frame]
@[simp] theorem applyEffect_px (e : Effect) : (applyEffect s t e).px = t.px := by rw [applyEffect_frame]
@[simp] theorem applyEffect_pc (e : Effect) : (applyEffect s t e).pc = t.pc := by rw [applyEffect_frame]
@[simp] theorem applyEffect_dbr (e : Effect) : (applyEffect s t e).dbr = t.dbr := by rw [applyEffect_frame]
@[simp] theorem applyEffect_slots (e : Effect) : (applyEffect s t e).slots = t.slots := by rw [applyEffect_frame]
@[simp] theorem applyEffect_pcs (e : Effect) : (applyEffect s t e).pcs = t.pcs := by rw [applyEffect_frame]
@[simp] theorem applyEffect_endCalls (e : Effect) : (applyEffect s t e).endCalls = t.endCalls := by rw [applyEffect_frame]
@[simp] theorem applyEffect_pcstkp (e : Effect) : (applyEffect s t e).pcstkp = t.pcstkp := by rw [applyEffect_frame]
@[simp] theorem applyEffect_las (e : Effect) : (applyEffect s t e).las = t.las := by rw [applyEffect_frame]
@[simp] theorem applyEffect_lcs (e : Effect) : (applyEffect s t e).lcs = t.lcs := by rw [applyEffect_frame]
@[simp] theorem applyEffect_lens (e : Effect) : (applyEffect s t e).lens = t.lens := by rw [applyEffect_frame]
@[simp] theorem applyEffect_lsp (e : Effect) : (applyEffect s t e).lsp = t.lsp := by rw [applyEffect_frame]
@[simp] theorem applyEffect_tail (e : Effect) : (applyEffect s t e).tail = t.tail := by rw [applyEffect_frame]
@[simp] theorem applyEffect_ending (e : Effect) : (applyEffect s t e).ending = t.ending := by rw [applyEffect_frame]
@[simp] theorem applyEffect_sts (e : Effect) : (applyEffect s t e).sts = t.sts := by rw [applyEffect_frame]
@[simp] theorem applyEffect_mode1 (e : Effect) : (applyEffect s t e).mode1 = t.mode1 := by rw [applyEffect_frame]
@[simp] theorem applyEffect_mode2 (e : Effect) : (applyEffect s t e).mode2 = t.mode2 := by rw [applyEffect_frame]
@[simp] theorem applyEffect_irptl (e : Effect) : (applyEffect s t e).irptl = t.irptl := by rw [applyEffect_frame]
@[simp] theorem applyEffect_imask (e : Effect) : (applyEffect s t e).imask = t.imask := by rw [applyEffect_frame]
@[simp] theorem applyEffect_imaskp (e : Effect) : (applyEffect s t e).imaskp = t.imaskp := by rw [applyEffect_frame]
@[simp] theorem applyEffect_ustat1 (e : Effect) : (applyEffect s t e).ustat1 = t.ustat1 := by rw [applyEffect_frame]
@[simp] theorem applyEffect_ustat2 (e : Effect) : (applyEffect s t e).ustat2 = t.ustat2 := by rw [applyEffect_frame]
@[simp] theorem applyEffect_tcount (e : Effect) : (applyEffect s t e).tcount = t.tcount := by rw [applyEffect_frame]
@[simp] theorem applyEffect_tperiod (e : Effect) : (applyEffect s t e).tperiod = t.tperiod := by rw [applyEffect_frame]
@[simp] theorem applyEffect_latent (e : Effect) : (applyEffect s t e).latent = t.latent := by rw [applyEffect_frame]
@[simp] theorem applyEffect_latentPcstkp (e : Effect) : (applyEffect s t e).latentPcstkp = t.latentPcstkp := by
  rw [applyEffect_frame]
@[simp] theorem applyEffect_counterLoaded (e : Effect) : (applyEffect s t e).counterLoaded = t.counterLoaded := by
  rw [applyEffect_frame]
@[simp] theorem applyEffect_nonSeq (e : Effect) : (applyEffect s t e).nonSeq = t.nonSeq := by rw [applyEffect_frame]
@[simp] theorem applyEffect_idle (e : Effect) : (applyEffect s t e).idle = t.idle := by rw [applyEffect_frame]
@[simp] theorem applyEffect_justEntered (e : Effect) : (applyEffect s t e).justEntered = t.justEntered := by
  rw [applyEffect_frame]
@[simp] theorem applyEffect_irqHeld (e : Effect) : (applyEffect s t e).irqHeld = t.irqHeld := by rw [applyEffect_frame]
@[simp] theorem applyEffect_flagIn (e : Effect) : (applyEffect s t e).flagIn = t.flagIn := by rw [applyEffect_frame]
@[simp] theorem applyEffect_busMaster (e : Effect) : (applyEffect s t e).busMaster = t.busMaster := by
  rw [applyEffect_frame]
@[simp] theorem applyEffect_inputs (e : Effect) : (applyEffect s t e).inputs = t.inputs := by rw [applyEffect_frame]
@[simp] theorem applyEffect_mem (e : Effect) : (applyEffect s t e).mem = t.mem := by rw [applyEffect_frame]
@[simp] theorem applyEffect_dirty (e : Effect) : (applyEffect s t e).dirty = t.dirty := by rw [applyEffect_frame]
@[simp] theorem applyEffect_rewidth (e : Effect) : (applyEffect s t e).rewidth = t.rewidth := by rw [applyEffect_frame]
@[simp] theorem applyEffect_drawn (e : Effect) : (applyEffect s t e).drawn = t.drawn := by rw [applyEffect_frame]

theorem applyEffect_rf (e : Effect) : (applyEffect s t e).rf = (putRegs s t e.regs).rf := by
  unfold applyEffect
  rw [putMr_frame]
  rfl

theorem applyEffect_mr (e : Effect) : (applyEffect s t e).mr = (putMr t e.mr).mr := by
  unfold applyEffect
  cases h : e.mr with
  | none => simp only [putMr, putFlags_mr]; rw [putRegs_frame]
  | some p => simp only [putMr, putFlags_mr]; rw [putRegs_frame]

@[simp] theorem applyEffect_astat (e : Effect) : (applyEffect s t e).astat = e.flags.onAstat t.astat := by
  unfold applyEffect
  rw [putMr_frame, putRegs_frame]
  rfl

@[simp] theorem applyEffect_stky (e : Effect) : (applyEffect s t e).stky = t.stky ||| e.flags.sticky := by
  unfold applyEffect
  rw [putMr_frame, putRegs_frame]
  rfl

/-! A write of a word of memory. -/

section
variable (sp : Space) (full : Bool) (a : Nat) (v : W48)

@[simp] theorem storeWord_cfg : (storeWord s sp full a v).cfg = s.cfg := rfl
@[simp] theorem storeWord_rf : (storeWord s sp full a v).rf = s.rf := rfl
@[simp] theorem storeWord_mr : (storeWord s sp full a v).mr = s.mr := rfl
@[simp] theorem storeWord_dag1 : (storeWord s sp full a v).dag1 = s.dag1 := rfl
@[simp] theorem storeWord_dag2 : (storeWord s sp full a v).dag2 = s.dag2 := rfl
@[simp] theorem storeWord_px : (storeWord s sp full a v).px = s.px := rfl
@[simp] theorem storeWord_pc : (storeWord s sp full a v).pc = s.pc := rfl
@[simp] theorem storeWord_dbr : (storeWord s sp full a v).dbr = s.dbr := rfl
@[simp] theorem storeWord_slots : (storeWord s sp full a v).slots = s.slots := rfl
@[simp] theorem storeWord_pcs : (storeWord s sp full a v).pcs = s.pcs := rfl
@[simp] theorem storeWord_endCalls : (storeWord s sp full a v).endCalls = s.endCalls := rfl
@[simp] theorem storeWord_pcstkp : (storeWord s sp full a v).pcstkp = s.pcstkp := rfl
@[simp] theorem storeWord_las : (storeWord s sp full a v).las = s.las := rfl
@[simp] theorem storeWord_lcs : (storeWord s sp full a v).lcs = s.lcs := rfl
@[simp] theorem storeWord_lens : (storeWord s sp full a v).lens = s.lens := rfl
@[simp] theorem storeWord_lsp : (storeWord s sp full a v).lsp = s.lsp := rfl
@[simp] theorem storeWord_tail : (storeWord s sp full a v).tail = s.tail := rfl
@[simp] theorem storeWord_ending : (storeWord s sp full a v).ending = s.ending := rfl
@[simp] theorem storeWord_sts : (storeWord s sp full a v).sts = s.sts := rfl
@[simp] theorem storeWord_mode1 : (storeWord s sp full a v).mode1 = s.mode1 := rfl
@[simp] theorem storeWord_mode2 : (storeWord s sp full a v).mode2 = s.mode2 := rfl
@[simp] theorem storeWord_irptl : (storeWord s sp full a v).irptl = s.irptl := rfl
@[simp] theorem storeWord_imask : (storeWord s sp full a v).imask = s.imask := rfl
@[simp] theorem storeWord_imaskp : (storeWord s sp full a v).imaskp = s.imaskp := rfl
@[simp] theorem storeWord_astat : (storeWord s sp full a v).astat = s.astat := rfl
@[simp] theorem storeWord_stky : (storeWord s sp full a v).stky = s.stky := rfl
@[simp] theorem storeWord_ustat1 : (storeWord s sp full a v).ustat1 = s.ustat1 := rfl
@[simp] theorem storeWord_ustat2 : (storeWord s sp full a v).ustat2 = s.ustat2 := rfl
@[simp] theorem storeWord_tcount : (storeWord s sp full a v).tcount = s.tcount := rfl
@[simp] theorem storeWord_tperiod : (storeWord s sp full a v).tperiod = s.tperiod := rfl
@[simp] theorem storeWord_latent : (storeWord s sp full a v).latent = s.latent := rfl
@[simp] theorem storeWord_latentPcstkp : (storeWord s sp full a v).latentPcstkp = s.latentPcstkp := rfl
@[simp] theorem storeWord_counterLoaded : (storeWord s sp full a v).counterLoaded = s.counterLoaded := rfl
@[simp] theorem storeWord_nonSeq : (storeWord s sp full a v).nonSeq = s.nonSeq := rfl
@[simp] theorem storeWord_idle : (storeWord s sp full a v).idle = s.idle := rfl
@[simp] theorem storeWord_justEntered : (storeWord s sp full a v).justEntered = s.justEntered := rfl
@[simp] theorem storeWord_irqHeld : (storeWord s sp full a v).irqHeld = s.irqHeld := rfl
@[simp] theorem storeWord_flagIn : (storeWord s sp full a v).flagIn = s.flagIn := rfl
@[simp] theorem storeWord_busMaster : (storeWord s sp full a v).busMaster = s.busMaster := rfl
@[simp] theorem storeWord_inputs : (storeWord s sp full a v).inputs = s.inputs := rfl
@[simp] theorem storeWord_mem : (storeWord s sp full a v).mem = writtenMem s sp full a v := rfl
@[simp] theorem storeWord_dirty :
    (storeWord s sp full a v).dirty = if holdsMemory s.cfg a then insertAddr (wordOf s.cfg a) s.dirty else s.dirty :=
  rfl
@[simp] theorem storeWord_rewidth : (storeWord s sp full a v).rewidth = writtenWidths s full a := rfl
@[simp] theorem storeWord_drawn : (storeWord s sp full a v).drawn = s.drawn := rfl

end

/-! The restriction of the two locations after a delayed branch. -/

@[simp] theorem restrictSlots_cfg : (restrictSlots s t).cfg = t.cfg := rfl
@[simp] theorem restrictSlots_rf : (restrictSlots s t).rf = t.rf := rfl
@[simp] theorem restrictSlots_mr : (restrictSlots s t).mr = t.mr := rfl
@[simp] theorem restrictSlots_dag1 : (restrictSlots s t).dag1 = t.dag1 := rfl
@[simp] theorem restrictSlots_dag2 : (restrictSlots s t).dag2 = t.dag2 := rfl
@[simp] theorem restrictSlots_px : (restrictSlots s t).px = t.px := rfl
@[simp] theorem restrictSlots_pc : (restrictSlots s t).pc = t.pc := rfl
@[simp] theorem restrictSlots_dbr : (restrictSlots s t).dbr = t.dbr := rfl
@[simp] theorem restrictSlots_slots : (restrictSlots s t).slots = (s.pc + 1) :: (s.pc + 2) :: t.slots := rfl
@[simp] theorem restrictSlots_pcs : (restrictSlots s t).pcs = t.pcs := rfl
@[simp] theorem restrictSlots_endCalls : (restrictSlots s t).endCalls = t.endCalls := rfl
@[simp] theorem restrictSlots_pcstkp : (restrictSlots s t).pcstkp = t.pcstkp := rfl
@[simp] theorem restrictSlots_las : (restrictSlots s t).las = t.las := rfl
@[simp] theorem restrictSlots_lcs : (restrictSlots s t).lcs = t.lcs := rfl
@[simp] theorem restrictSlots_lens : (restrictSlots s t).lens = t.lens := rfl
@[simp] theorem restrictSlots_lsp : (restrictSlots s t).lsp = t.lsp := rfl
@[simp] theorem restrictSlots_tail : (restrictSlots s t).tail = t.tail := rfl
@[simp] theorem restrictSlots_ending : (restrictSlots s t).ending = t.ending := rfl
@[simp] theorem restrictSlots_sts : (restrictSlots s t).sts = t.sts := rfl
@[simp] theorem restrictSlots_mode1 : (restrictSlots s t).mode1 = t.mode1 := rfl
@[simp] theorem restrictSlots_mode2 : (restrictSlots s t).mode2 = t.mode2 := rfl
@[simp] theorem restrictSlots_irptl : (restrictSlots s t).irptl = t.irptl := rfl
@[simp] theorem restrictSlots_imask : (restrictSlots s t).imask = t.imask := rfl
@[simp] theorem restrictSlots_imaskp : (restrictSlots s t).imaskp = t.imaskp := rfl
@[simp] theorem restrictSlots_astat : (restrictSlots s t).astat = t.astat := rfl
@[simp] theorem restrictSlots_stky : (restrictSlots s t).stky = t.stky := rfl
@[simp] theorem restrictSlots_ustat1 : (restrictSlots s t).ustat1 = t.ustat1 := rfl
@[simp] theorem restrictSlots_ustat2 : (restrictSlots s t).ustat2 = t.ustat2 := rfl
@[simp] theorem restrictSlots_tcount : (restrictSlots s t).tcount = t.tcount := rfl
@[simp] theorem restrictSlots_tperiod : (restrictSlots s t).tperiod = t.tperiod := rfl
@[simp] theorem restrictSlots_latent : (restrictSlots s t).latent = t.latent := rfl
@[simp] theorem restrictSlots_latentPcstkp : (restrictSlots s t).latentPcstkp = t.latentPcstkp := rfl
@[simp] theorem restrictSlots_counterLoaded : (restrictSlots s t).counterLoaded = t.counterLoaded := rfl
@[simp] theorem restrictSlots_nonSeq : (restrictSlots s t).nonSeq = t.nonSeq := rfl
@[simp] theorem restrictSlots_idle : (restrictSlots s t).idle = t.idle := rfl
@[simp] theorem restrictSlots_justEntered : (restrictSlots s t).justEntered = t.justEntered := rfl
@[simp] theorem restrictSlots_irqHeld : (restrictSlots s t).irqHeld = t.irqHeld := rfl
@[simp] theorem restrictSlots_flagIn : (restrictSlots s t).flagIn = t.flagIn := rfl
@[simp] theorem restrictSlots_busMaster : (restrictSlots s t).busMaster = t.busMaster := rfl
@[simp] theorem restrictSlots_inputs : (restrictSlots s t).inputs = t.inputs := rfl
@[simp] theorem restrictSlots_mem : (restrictSlots s t).mem = t.mem := rfl
@[simp] theorem restrictSlots_dirty : (restrictSlots s t).dirty = t.dirty := rfl
@[simp] theorem restrictSlots_rewidth : (restrictSlots s t).rewidth = t.rewidth := rfl
@[simp] theorem restrictSlots_drawn : (restrictSlots s t).drawn = t.drawn := rfl

/-! The larger updates, each as a whole. -/

theorem setCount_frame (k : Nat) (v : W32) : setCount t k v = { t with lcs := (setCount t k v).lcs } := by
  unfold setCount
  split <;> rfl

theorem putDag1_frame (k : DagKind) (n : Fin 8) (v : W32) :
    putDag1 s t k n v = { t with dag1 := (putDag1 s t k n v).dag1 } := by
  cases k <;> rfl

theorem putDag2_frame (k : DagKind) (n : Fin 8) (v : A24) :
    putDag2 s t k n v = { t with dag2 := (putDag2 s t k n v).dag2 } := by
  cases k <;> rfl

/-- A post-modify in DAG1 changes the generator, STKY and IRPTL only. -/
theorem updateDag1_frame (i m : Fin 8) :
    updateDag1 s t i m = { t with
      dag1 := (updateDag1 s t i m).dag1, stky := (updateDag1 s t i m).stky, irptl := (updateDag1 s t i m).irptl } := by
  cases h : ((dag1Modified s i m).2 && decide (i = 7)) <;> simp only [updateDag1, h] <;> rfl

/-- A post-modify in DAG2 changes the generator, STKY and IRPTL only. -/
theorem updateDag2_frame (i m : Fin 8) :
    updateDag2 s t i m = { t with
      dag2 := (updateDag2 s t i m).dag2, stky := (updateDag2 s t i m).stky, irptl := (updateDag2 s t i m).irptl } := by
  cases h : ((dag2Modified s i m).2 && decide (i = 7)) <;> simp only [updateDag2, h] <;> rfl

/-- A push on the PC stack changes the stack, its pointer and IRPTL only. -/
theorem pushPc_frame (a : A24) :
    pushPc t a = { t with
      pcs := (pushPc t a).pcs, endCalls := (pushPc t a).endCalls, pcstkp := (pushPc t a).pcstkp, irptl := (pushPc t a).irptl } := by
  unfold pushPc
  split
  · split <;> rfl
  · split <;> rfl

/-- A push on the status stack changes the stack, STKY and IRPTL only. -/
theorem pushStatus_frame :
    pushStatus t = { t with
      sts := (pushStatus t).sts, stky := (pushStatus t).stky, irptl := (pushStatus t).irptl } := by
  unfold pushStatus
  split <;> rfl

/-- A push on the loop stacks changes their pointer and the length of the new level, or STKY and IRPTL. -/
theorem pushLoops_frame :
    pushLoops t = { t with
      lens := (pushLoops t).lens, lsp := (pushLoops t).lsp
      stky := (pushLoops t).stky, irptl := (pushLoops t).irptl } := by
  unfold pushLoops
  split <;> rfl

/-- A push of a loop changes the loop address stack and the counter cell too. -/
theorem pushLoop_frame (w : W32) (len : Fin 4) (counted : Bool) :
    pushLoop s t w len counted = { t with
      las := (pushLoop s t w len counted).las, lcs := (pushLoop s t w len counted).lcs
      lens := (pushLoop s t w len counted).lens, lsp := (pushLoop s t w len counted).lsp
      stky := (pushLoop s t w len counted).stky, irptl := (pushLoop s t w len counted).irptl } := by
  unfold pushLoop
  split <;> rfl

/-- Ending the service of an interrupt changes IMASKP and IRPTL only. -/
theorem leaveService_frame (b : Nat) :
    leaveService b t = { t with imaskp := (leaveService b t).imaskp, irptl := (leaveService b t).irptl } := rfl

/-- A timer tick changes TCOUNT and IRPTL only. -/
theorem timerTick_frame :
    timerTick s t = { t with tcount := (timerTick s t).tcount, irptl := (timerTick s t).irptl } := by
  unfold timerTick
  split
  · split <;> rfl
  · rfl

end Sys2Proof.Machine
end

