-- ==== Sys2Proof/Laws/Ops.lean ====
section
/-! SUPPORT. What each shared operation does, said once: if it answers a next state, then that state is so. -/

namespace Sys2Proof.Machine

/-! Results. -/

theorem bind_ok {α β : Type} {x : Res α} {f : α → Res β} {b : β} :
    x.bind f = .ok b ↔ ∃ a, x = .ok a ∧ f a = .ok b := by
  cases x with
  | error e => simp [Except.bind]
  | ok a => simp [Except.bind]

theorem map_ok {α β : Type} {x : Res α} {f : α → β} {b : β} : x.map f = .ok b ↔ ∃ a, x = .ok a ∧ f a = b := by
  cases x with
  | error e => simp [Except.map]
  | ok a => simp [Except.map]

@[simp] theorem bind_of_ok {α β : Type} (a : α) (f : α → Res β) : Except.bind (.ok a : Res α) f = f a := rfl

@[simp] theorem bind_of_error {α β : Type} (e : Stop) (f : α → Res β) :
    Except.bind (.error e : Res α) f = .error e := rfl

@[simp] theorem map_of_ok {α β : Type} (a : α) (f : α → β) : Except.map f (.ok a : Res α) = .ok (f a) := rfl

@[simp] theorem map_of_error {α β : Type} (e : Stop) (f : α → β) : Except.map f (.error e : Res α) = .error e := rfl

theorem demand_ok {b : Bool} {r : Refusal} {u : Unit} : demand b r = .ok u ↔ b = true := by
  cases b <;> simp [demand, refused]

@[simp] theorem demand_true (r : Refusal) : demand true r = .ok () := rfl

@[simp] theorem demand_false (r : Refusal) : demand false r = .error (.refuse r) := rfl

@[simp] theorem toOutcome_ok (t : State) : toOutcome (.ok t) = .next t := rfl

@[simp] theorem toOutcome_fault (f : Fault) : toOutcome (.error (.fault f)) = .fault f := rfl

@[simp] theorem toOutcome_refuse (r : Refusal) : toOutcome (.error (.refuse r)) = .refused r := rfl

theorem toOutcome_next {x : Res State} {t : State} : toOutcome x = .next t ↔ x = .ok t := by
  match x with
  | .ok u => simp
  | .error (.fault f) => simp
  | .error (.refuse r) => simp

/-! The forms of an instruction. -/

/-- An unconditional instruction goes on exactly when the sequencer and its own effect do. -/
theorem always_next {s u : State} {f : State → Res State} :
    always s f = .next u ↔ ∃ t, sequenced s = .ok t ∧ f t = .ok u := by
  simp [always, toOutcome_next, bind_ok]

/-- The same of a conditional one; under a false condition only `skip` happens after the sequencing. -/
theorem conditional_next {c : Cond} {s u : State} {skip : State → State} {f : State → Res State} :
    conditional c s skip f = .next u ↔
      (!(c == .lce && s.counterLoaded)) = true ∧
        ∃ t, sequenced s = .ok t ∧ (if condition s c then f t else .ok (skip t)) = .ok u := by
  simp [conditional, toOutcome_next, bind_ok, demand_ok]

/-- The same of a branch: it may stand here, and its computation answers when it is taken. -/
theorem branch_next {c : Cond} {db call : Bool} {e : Res Effect} {s u : State} {f : State → Res State} :
    branch c db call e s f = .next u ↔
      branchHere s (call && !db) = .ok () ∧ (!(c == .lce && s.counterLoaded)) = true ∧
        ∃ t, sequenced s = .ok t ∧
          (if condition s c then e.bind fun e => f (applyEffect s t e) else .ok (untaken s t db)) = .ok u := by
  simp only [branch, toOutcome_next, bind_ok, demand_ok]
  exact ⟨fun ⟨_, h1, _, h2, h⟩ => ⟨h1, h2, h⟩, fun ⟨h1, h2, h⟩ => ⟨(), h1, (), h2, h⟩⟩

theorem runCompute_next {e : Effect} {s u : State} :
    runCompute e s = .next u ↔ ∃ t, sequenced s = .ok t ∧ applyEffect s t e = u := by
  simp [runCompute, always_next]

theorem tryCompute_next {e : Res Effect} {s u : State} :
    tryCompute e s = .next u ↔ ∃ t, sequenced s = .ok t ∧ ∃ a, e = .ok a ∧ applyEffect s t a = u := by
  simp [tryCompute, always_next, map_ok]

/-! The stacks. -/

theorem pcStackFree_ok {s : State} {u : Unit} : pcStackFree s = .ok u ↔ s.latentPcstkp = none := by
  simp [pcStackFree, demand_ok]

theorem popPc_ok {s t u : State} :
    popPc s t = .ok u ↔
      t.pcstkp ≠ 0 ∧ u = { t with pcstkp := if t.pcstkp = 31 then drawBits 5 .overflowPop s else t.pcstkp - 1 } := by
  unfold popPc
  split
  · next h => simp [refused, h]
  · next h => simp only [Except.ok.injEq, h, ne_eq, not_false_eq_true, true_and]; exact eq_comm

theorem popLoops_ok {s t : State} :
    popLoops s = .ok t ↔ s.lsp.val ≠ 0 ∧ t = { s with lsp := ⟨s.lsp.val - 1, by omega⟩ } := by
  unfold popLoops
  split
  · simp_all [refused]
  · simp_all [eq_comm]

theorem popStatus_ok {s t : State} :
    popStatus s = .ok t ↔ ∃ p l, s.sts = p :: l ∧
      t = { s with astat := p.1 &&& ~~~flagInMask, mode1 := p.2, sts := l } := by
  unfold popStatus
  split
  · simp_all [refused]
  · simp_all [eq_comm]

/-- A return goes to the top of the PC stack; to a free address where there is none and the stack is not empty. -/
theorem returnAddress_ok {s t : State} {a : A24} :
    returnAddress s t = .ok a ↔
      pcTop t = some a ∨ (pcTop t = none ∧ t.pcstkp ≠ 0 ∧ a = drawBits 24 .pcstk s) := by
  unfold returnAddress
  split
  · simp_all
  · next h =>
    split
    · next h0 => simp [refused, h, h0]
    · next h0 =>
      simp only [Except.ok.injEq, h, reduceCtorEq, ne_eq, h0, not_false_eq_true, true_and, false_or]
      exact eq_comm

/-- What a field of `Numerics` answers when the parameters name nothing. -/
theorem numeric_reference {s : State} {op : NumericOp} {x y : W40} {o : FOut} (h : s.cfg.numerics = []) :
    numeric s op x y o = o := by
  simp [numeric, h]

/-- What it answers for a NAN operand, whatever the parameters name: R215 fixes the word and AI. -/
theorem numeric_nan {s : State} {op : NumericOp} {x y : W40} {o : FOut}
    (hn : anyNan op (conditioned s op) x y = true) (ha : o.ai = true) :
    (numeric s op x y o).word = o.word ∧ (numeric s op x y o).ai = true := by
  unfold numeric
  split
  · exact ⟨rfl, ha⟩
  · simp [numericWithin, hn, ha]

@[simp] theorem fx_put32 (w : W32) : fx (put32 w) = w := by
  change BitVec.extractLsb' 8 32 (w ++ (0 : BitVec 8)) = w
  exact BitVec.extractLsb'_append_eq_left

theorem averaged_reference {s : State} {x y : W32} (h : s.cfg.numerics = []) :
    averaged s x y = average (trunc s) x y := by
  simp [averaged, numeric_reference h, FOut.ofInt]

/-! The sequencer. -/

theorem popLoopEnd_ok {s t : State} (h : popLoopEnd s = .ok t) :
    t = { s with lsp := t.lsp, pcstkp := t.pcstkp } ∧ t.lsp.val + 1 = s.lsp.val ∧
      (s.pcstkp ≠ 31 → t.pcstkp = s.pcstkp - 1) := by
  simp only [popLoopEnd, bind_ok, popLoops_ok, popPc_ok] at h
  obtain ⟨_, _, u, ⟨hl, rfl⟩, _, rfl⟩ := h
  exact ⟨rfl, by simp; omega, fun h => if_neg h⟩

/-- The loop test changes the stack pointers, the loop counters and the notes of a loop running out only. -/
theorem loopTest_frame {s t : State} (h : loopTest s = .ok t) :
    t = { s with lsp := t.lsp, pcstkp := t.pcstkp, lcs := t.lcs, tail := t.tail, ending := t.ending } := by
  have long : ∀ {u : State} {e : A24}, endLongLoop u e = .ok t →
      t = { u with lsp := t.lsp, pcstkp := t.pcstkp, tail := t.tail, ending := t.ending } := by
    intro u e hu
    simp only [endLongLoop, map_ok] at hu
    obtain ⟨w, hw, rfl⟩ := hu
    rw [(popLoopEnd_ok hw).1]
  have short : ∀ {u : State} {e : A24} {n : Nat} {b : Bool}, endShortLoop u e n b = .ok t →
      t = { u with lsp := t.lsp, pcstkp := t.pcstkp, tail := t.tail } := by
    intro u e n b hu
    simp only [endShortLoop, bind_ok, map_ok] at hu
    obtain ⟨_, _, w, hw, rfl⟩ := hu
    rw [(popLoopEnd_ok hw).1]
  have keep : ∀ {u : State}, (.ok u : Res State) = .ok t → u = t := fun hu => by simpa using hu
  unfold loopTest at h
  split at h
  · rw [← keep h]
  · next l hl =>
    split at h
    · unfold testPlainLoop at h
      split at h
      · rw [← keep h]
      · split at h
        · split at h
          · rw [long h]
          · rw [← keep h]
        · split at h
          · split at h
            · rw [short h]
            · rw [← keep h]
          · rw [← keep h]
    · split at h
      · unfold countLoop at h
        dsimp only at h
        generalize (if l.kind = 1 then (3 : W32) else 2) = last at h
        generalize (if l.kind = 1 then 2 else 1) = more at h
        split at h
        · split at h
          · have := long h; rw [setCount_frame] at this; rw [this]
          · rw [← keep h, setCount_frame]
        · split at h
          · have := short h; rw [setCount_frame] at this; rw [this]
          · split at h
            · have := (popLoopEnd_ok h).1; rw [setCount_frame] at this; rw [this]
            · rw [← keep h, setCount_frame]
      · rw [← keep h]

theorem nextAddress_frame {s : State} {n : State × A24 × Bool} (h : nextAddress s = .ok n) :
    n.1 = { s with tail := n.1.tail } := by
  have loop : ∀ {m}, loopNext s = .ok m → m.1 = s := by
    intro m hm
    unfold loopNext at hm
    split at hm
    · simp only [Except.ok.injEq] at hm; rw [← hm]
    · split at hm
      · simp only [bind_ok, map_ok] at hm
        obtain ⟨_, _, _, _, rfl⟩ := hm
        rfl
      · simp only [Except.ok.injEq] at hm; rw [← hm]
  unfold nextAddress at h
  split at h
  · rw [loop h]
  · split at h
    · split at h <;> (simp only [Except.ok.injEq] at h; rw [← h])
    · rw [loop h]

/-- The sequencer changes its own state only; the latencies of the instruction before have passed. -/
theorem sequenced_frame {s t : State} (h : sequenced s = .ok t) :
    t = sequencedTo s t ∧ t.latent = [] ∧ t.latentPcstkp = none ∧ t.counterLoaded = false ∧
      t.justEntered = false ∧ t.drawn = s.drawn + 1 := by
  simp only [sequenced, bind_ok, map_ok] at h
  obtain ⟨_, _, u, hu, n, hn, rfl⟩ := h
  refine ⟨?_, rfl, rfl, rfl, rfl, rfl⟩
  have h1 := nextAddress_frame hn
  have h2 := loopTest_frame hu
  rw [h2] at h1
  rw [h1]
  rfl

/-! Memory writes. -/

/-- What a wide read adds to a narrow word lies below the 40 bits of the bus. -/
theorem onPmBus_low40 (s : State) (full : Bool) (v : W48) : low40 (onPmBus s full v) = low40 v := by
  cases full
  · rfl
  · have h (x : W40) (y : BitVec 8) : (x ++ y).extractLsb' 8 40 = x := by
      refine BitVec.eq_of_getLsbD_eq fun i hi => ?_
      have hx : (x ++ y : BitVec (40 + 8)).getLsbD (8 + i) = x.getLsbD i := by
        rw [BitVec.getLsbD_append]
        simp
      rw [BitVec.getLsbD_extractLsb', hx]
      simp [hi]
    exact h _ _

/-- A call's push differs from a plain one in the mark of its entry only. -/
theorem pushCall_frame (s t : State) (a : A24) :
    pushCall s t a = { pushPc t a with endCalls := (pushCall s t a).endCalls } := by
  simp only [pushCall]
  split <;> rfl

/-- A plain return runs when it does not go to a counting loop's end and no CALL at a loop's end pushed its entry. -/
theorem needsLr_eq_false {s : State} :
    needsLr s = false ↔ returnsIntoCounting s = false ∧ fromEndCall s = false := by
  simp [needsLr]

/-- A store that answers changes memory and the two lists of written words only, as `storeWord` says. -/
theorem writeWord_ok {s t : State} {sp : Space} {full : Bool} {a : Nat} {v : W48} :
    writeWord s sp full a v = .ok t ↔ regionOf s.cfg a ≠ .unmapped ∧ t = storeWord s sp full a v := by
  unfold writeWord
  split
  · next h => simp [faulted, h]
  · next h => simp [h, eq_comm]

/-- What a read of a held word answers: the word read at the width it was written with, or nothing is there. -/
theorem readHeld_ok {s : State} {a : Nat} {w : WordWidth} {full : Bool} {v : Option W48}
    (h : readHeld s a w full = .ok v) :
    ((w = .w32 ∨ holds48 s a w = full) ∧ v = readColumn s.mem a w full) ∨
      (v = none ∧ readColumn s.mem a w false = none) := by
  unfold readHeld at h
  split at h
  · next hw => exact .inl ⟨hw, by simpa using h.symm⟩
  · split at h
    · simp [refused] at h
    · next hn => exact .inr ⟨by simpa using h.symm, by simpa using hn⟩

theorem writeColumn_wf {m : Memory} (a : Nat) (w : WordWidth) (sp : Space) (full : Bool) (v : W48)
    (h : m.wf = true) : (writeColumn m a w sp full v).wf = true := by
  unfold writeColumn
  split <;> exact Memory.wf_writeBytes _ _ _ h

theorem writtenMem_wf {s : State} (sp : Space) (full : Bool) (a : Nat) (v : W48) (h : s.mem.wf = true) :
    (writtenMem s sp full a v).wf = true := by
  unfold writtenMem
  split
  · exact h
  · exact h
  · exact h
  · exact writeColumn_wf _ _ _ _ _ h
  · exact writeColumn_wf _ _ _ _ _ h
  · exact Memory.wf_writeBytes _ _ _ h

theorem writtenWidths_rises {s : State} (full : Bool) (a : Nat) (h : rises s.rewidth = true) :
    rises (writtenWidths s full a) = true := by
  unfold writtenWidths
  split
  all_goals first
    | exact h
    | (split
       · first | exact rises_insertAddr _ h | exact rises_filter _ h
       · first | exact rises_insertAddr _ h | exact rises_filter _ h)

/-- A write keeps memory and the two lists of written words canonical. -/
theorem storeWord_canonical {s : State} (sp : Space) (full : Bool) (a : Nat) (v : W48)
    (hs : memoryCanonical s = true) : memoryCanonical (storeWord s sp full a v) = true := by
  simp only [memoryCanonical, Bool.and_eq_true, storeWord_mem, storeWord_dirty, storeWord_rewidth] at hs ⊢
  refine ⟨⟨writtenMem_wf _ _ _ _ hs.1.1, ?_⟩, writtenWidths_rises _ _ hs.2⟩
  split
  · exact rises_insertAddr _ hs.1.2
  · exact hs.1.2

theorem writeWord_canonical {s t : State} {sp : Space} {full : Bool} {a : Nat} {v : W48}
    (h : writeWord s sp full a v = .ok t) (hs : memoryCanonical s = true) : memoryCanonical t = true := by
  rw [(writeWord_ok.1 h).2]
  exact storeWord_canonical _ _ _ _ hs

/-! Where an instruction may stand. -/

theorem mayStand_ok {s : State} {dst : Ureg} {mem : Bool} {u : Unit} :
    mayStand s dst mem = .ok u ↔
      (inSlot s && stackRegister dst) = false ∧ (mem && dst == .curlcntr && atCountTest s) = false := by
  simp only [mayStand, bind_ok, demand_ok, exists_const, Bool.not_eq_true']

/-- An instruction that writes a universal register goes on only where it may stand. -/
theorem writing_next {dst : Ureg} {mem : Bool} {s t : State} {o : Host.Outcome State Fault Refusal} :
    writing dst mem s o = .next t ↔ mayStand s dst mem = .ok () ∧ o = .next t := by
  unfold writing
  split
  · next u h => simp [h]
  · next e h => cases e <;> simp [h]

/-- A stack instruction goes on exactly when it is in no delay slot, and the sequencer and its own effect go on. -/
theorem stackInstr_next {s u : State} {f : State → Res State} :
    stackInstr s f = .next u ↔ inSlot s = false ∧ ∃ t, sequenced s = .ok t ∧ f t = .ok u := by
  simp only [stackInstr, always_next, bind_ok, notInSlot, demand_ok]
  constructor
  · rintro ⟨t, ht, _, hs, hf⟩
    exact ⟨by simpa using hs, t, ht, hf⟩
  · rintro ⟨hs, t, ht, hf⟩
    exact ⟨t, ht, (), by simpa using hs, hf⟩

/-! System registers. -/

/-- An explicit write of a system register touches the system registers and the note of the write only. -/
theorem putSreg_frame {s t u : State} {r : Sreg} {v : W32} (h : putSreg s t r v = .ok u) :
    u = { t with
      mode1 := u.mode1, mode2 := u.mode2, irptl := u.irptl, imask := u.imask, imaskp := u.imaskp
      astat := u.astat, stky := u.stky, ustat1 := u.ustat1, ustat2 := u.ustat2, latent := u.latent } := by
  unfold putSreg at h
  split at h
  case h_3 =>
    split at h
    · simp only [Except.ok.injEq] at h; subst h; rfl
    · simp [refused] at h
  all_goals (simp only [Except.ok.injEq] at h; subst h; rfl)

end Sys2Proof.Machine
end

