-- ==== Sys2Proof/Tests/Slice0.lean ====
section
/-! SUPPORT. The model's own tests: the well-formedness checks, a word for every constructor, the worked vectors of
spec/95_test_vectors.md on one step each, and for every statement a state and operands that meet its hypotheses. -/

namespace Sys2Proof.Tests

-- The tests are many and small: elaborated one after the other they need one thread, not one each.
set_option Elab.async false

open Sys2Proof Sys2Proof.Machine

/-! Helpers. -/

/-- A state in straight-line code with every register zero. -/
def start : State := { State.reset with pc := 0x020100, nonSeq := 0 }

def withR (n : Fin 32) (v : W40) (s : State) : State := { s with rf := s.rf.set n v }
def withMrf (v : W80) (s : State) : State := { s with mr := s.mr.set 0 v }
def mode (v : W32) (s : State) : State := { s with mode1 := v }
def flagged (v : W32) (s : State) : State := { s with astat := v }

/-- R1 and R2 hold `a` and `b`. -/
def two (a b : W40) : State := withR 2 b (withR 1 a start)

def ssf : MulMod := ⟨.s, .s, .f⟩
def ssi : MulMod := ⟨.s, .s, .i⟩
def uui : MulMod := ⟨.u, .u, .i⟩
def uuf : MulMod := ⟨.u, .u, .f⟩

/-- Every word of the list decodes to the instruction beside it. -/
def reads (l : List (Nat × Instr)) : Bool := l.all fun p => decodeTableWord 48 p.1 == some p.2

/-- `i` goes on and leaves these data registers, MRF, ASTAT and STKY (as stored). -/
def leaves (i : Instr) (s : State) (regs : List (Fin 32 × W40)) (mrf : Option W80) (astat stky : W32) : Bool :=
  match exec i s with
  | .next t => regs.all (fun p => t.rf.get p.1 == p.2) && (mrf.isNone || mrf == some (t.mr.get 0)) &&
      t.astat == astat && t.stky == stky
  | .fault _ => false
  | .refused _ => false

/-- `i` goes on and the next state meets `p`. -/
def gives (i : Instr) (s : State) (p : State → Bool) : Bool :=
  match exec i s with
  | .next t => p t
  | .fault _ => false
  | .refused _ => false

/-- A step goes on and the next state meets `p`. -/
def stepGives (s : State) (p : State → Bool) : Bool :=
  match step s with
  | .next t => p t
  | .fault _ => false
  | .refused _ => false

/-! Well-formedness: each check refuses an ill-formed term, and accepts its neighbour. -/

theorem test_wf_readonly_destination :
    (Instr.uregMove .tru none .pc (.r 0)).wf = false ∧ (Instr.loadImm .faddr 0).wf = false ∧
      (Instr.ldDmPre .tru none .daddr 0 0).wf = false ∧ (Instr.ldPmAbs .pc 0).wf = false ∧
      (Instr.uregMove .tru none (.r 0) .pc).wf = true := by decide

theorem test_wf_dual_destinations :
    (Instr.dualAddSub 3 3 1 2).wf = false ∧ (Instr.dualFAddSub 3 3 1 2).wf = false ∧
      (Instr.mulRWithDual 3 3 3 0 0 0 0).wf = false ∧ (Instr.fMulWithDual 1 3 3 0 0 0 0).wf = false ∧
      (Instr.mulRWithDual 3 3 4 0 0 0 0).wf = true := by decide

theorem test_wf_slot :
    (Instr.compute .eq (.dualAddSub 3 3 1 2)).wf = false ∧ (Instr.rts .tru false (some (.dualAddSub 3 3 1 2))).wf = false ∧
      (Instr.stDmPost .tru (some (.dualFAddSub 3 3 1 2)) 0 0 (.r 0)).wf = false := by decide

theorem test_wf_load_of_own_index :
    (Instr.ldDmPost .tru none (.dag1 .i 3) 3 0).wf = false ∧ (Instr.ldDmPost .tru none (.dag1 .b 3) 3 0).wf = false ∧
      (Instr.ldPmPost .tru none (.dag2 .i 3) 3 0).wf = false ∧ (Instr.ldPmPost .tru none (.dag2 .b 3) 3 0).wf = false ∧
      (Instr.ldDmPost .tru none (.dag1 .i 4) 3 0).wf = true ∧ (Instr.ldDmPre .tru none (.dag1 .i 3) 0 3).wf = true := by
  decide

theorem test_wf_dual_move_condition :
    (Instr.dualMove .eq none ⟨false, 0, 0, 0⟩ ⟨false, 1, 0, 0⟩).wf = false ∧
      (Instr.dualMove .tru none ⟨false, 0, 0, 0⟩ ⟨false, 1, 0, 0⟩).wf = true := by decide

theorem test_wf_direct_branch_with_compute :
    (Instr.jumpAbs .tru 0 false (some (.rPass 0 1))).wf = false ∧
      (Instr.callAbs .tru 0 false (some (.rPass 0 1))).wf = false ∧
      (Instr.jumpLa .tru (.abs 0) false false (some (.rPass 0 1))).wf = false ∧
      (Instr.jumpCi .tru (.abs 0) false (some (.rPass 0 1))).wf = false := by decide

theorem test_wf_short_offset :
    (Instr.jumpRel .tru 32 false (some (.rPass 0 1))).wf = false ∧
      (Instr.callRel .tru (-33) false (some (.rPass 0 1))).wf = false ∧
      (Instr.jumpRel .tru 31 false (some (.rPass 0 1))).wf = true ∧
      (Instr.jumpRel .tru (-32) false (some (.rPass 0 1))).wf = true ∧ (Instr.jumpRel .tru 32 false none).wf = true := by
  decide

theorem test_wf_count :
    (Instr.doCountImm 0x10000 ⟨0, .lce⟩).wf = false ∧ (Instr.doCountImm 0xFFFF ⟨0, .lce⟩).wf = true ∧
      (Instr.doCountImm 1 ⟨0, .eq⟩).wf = false ∧ (Instr.doCountUreg (.r 4) ⟨0, .eq⟩).wf = true := by decide

/-! Decoding. -/

/-- Fixed-point ALU instructions, one word each, written out from the layout of Decode.lean: unit, operation, operands. -/
theorem test_decode_fixed_alu : reads [
    (0x000032100C03, .rAdd 1 2 3),
    (0x000032101C03, .rSub 1 2 3),
    (0x000032102C03, .rAddCi 1 2 3),
    (0x000032103C03, .rSubCi 1 2 3),
    (0x000032104C03, .rAvg 1 2 3),
    (0x000002105C03, .rComp 1 2),
    (0x000002106C03, .rPlusCi 1 2),
    (0x000002107C03, .rPlusCiLess1 1 2),
    (0x000002108C03, .rInc 1 2),
    (0x000002109C03, .rDec 1 2),
    (0x00000210AC03, .rNeg 1 2),
    (0x00000210BC03, .rAbs 1 2),
    (0x00000210CC03, .rPass 1 2),
    (0x00003210DC03, .rAnd 1 2 3),
    (0x00003210EC03, .rOr 1 2 3),
    (0x00003210FC03, .rXor 1 2 3),
    (0x000002110C03, .rNot 1 2),
    (0x000032111C03, .rMin 1 2 3),
    (0x000032112C03, .rMax 1 2 3),
    (0x000032113C03, .rClip 1 2 3)] = true := by decide +kernel

/-- Floating-point ALU instructions, one word each, written out from the layout of Decode.lean: unit, operation, operands. -/
theorem test_decode_float_alu : reads [
    (0x000032114C03, .fAdd 1 2 3),
    (0x000032115C03, .fSub 1 2 3),
    (0x000032116C03, .fAbsAdd 1 2 3),
    (0x000032117C03, .fAbsSub 1 2 3),
    (0x000032118C03, .fAvg 1 2 3),
    (0x000002119C03, .fComp 1 2),
    (0x00000211AC03, .fNeg 1 2),
    (0x00000211BC03, .fAbs 1 2),
    (0x00000211CC03, .fPass 1 2),
    (0x00000211DC03, .fRnd 1 2),
    (0x00003211EC03, .fScalb 1 2 3),
    (0x00000211FC03, .fMant 1 2),
    (0x000002120C03, .fLogb 1 2),
    (0x000032121C03, .fFixBy 1 2 3),
    (0x000002122C03, .fFix 1 2),
    (0x000032123C03, .fFloatBy 1 2 3),
    (0x000002124C03, .fFloat 1 2),
    (0x000002125C03, .fRecips 1 2),
    (0x000002126C03, .fRsqrts 1 2),
    (0x000032127C03, .fCopysign 1 2 3),
    (0x000032128C03, .fMin 1 2 3),
    (0x000032129C03, .fMax 1 2 3),
    (0x00003212AC03, .fClip 1 2 3)] = true := by decide +kernel

/-- Multiplier instructions, one word each, written out from the layout of Decode.lean: unit, operation, operands. -/
theorem test_decode_multiplier : reads [
    (0x000093210B03, .mulR 1 2 3 ⟨.u, .s, .fr⟩),
    (0x000009211B03, .mulMrf 1 2 ⟨.u, .s, .fr⟩),
    (0x000009212B03, .mulMrb 1 2 ⟨.u, .s, .fr⟩),
    (0x000093213B03, .macAddRMrf 1 2 3 ⟨.u, .s, .fr⟩),
    (0x000093214B03, .macAddRMrb 1 2 3 ⟨.u, .s, .fr⟩),
    (0x000009215B03, .macAddMrf 1 2 ⟨.u, .s, .fr⟩),
    (0x000009216B03, .macAddMrb 1 2 ⟨.u, .s, .fr⟩),
    (0x000093217B03, .macSubRMrf 1 2 3 ⟨.u, .s, .fr⟩),
    (0x000093218B03, .macSubRMrb 1 2 3 ⟨.u, .s, .fr⟩),
    (0x000009219B03, .macSubMrf 1 2 ⟨.u, .s, .fr⟩),
    (0x00000921AB03, .macSubMrb 1 2 ⟨.u, .s, .fr⟩),
    (0x00000312BC03, .satRMrf 1 ⟨.u, true⟩),
    (0x00000312CC03, .satRMrb 1 ⟨.u, true⟩),
    (0x00000032DC03, .satMrf ⟨.u, true⟩),
    (0x00000032EC03, .satMrb ⟨.u, true⟩),
    (0x00000112FC03, .rndRMrf 1 .u),
    (0x000001130C03, .rndRMrb 1 .u),
    (0x000000131C03, .rndMrf .u),
    (0x000000132C03, .rndMrb .u),
    (0x000000033C03, .clrMrf),
    (0x000000034C03, .clrMrb),
    (0x000000135C03, .rdMr0f 1),
    (0x000000136C03, .rdMr1f 1),
    (0x000000137C03, .rdMr2f 1),
    (0x000000138C03, .rdMr0b 1),
    (0x000000139C03, .rdMr1b 1),
    (0x00000013AC03, .rdMr2b 1),
    (0x00000013BC03, .wrMr0f 1),
    (0x00000013CC03, .wrMr1f 1),
    (0x00000013DC03, .wrMr2f 1),
    (0x00000013EC03, .wrMr0b 1),
    (0x00000013FC03, .wrMr1b 1),
    (0x000000140C03, .wrMr2b 1),
    (0x000032141C03, .fMul 1 2 3)] = true := by decide +kernel

/-- Shifter instructions, one word each, written out from the layout of Decode.lean: unit, operation, operands. -/
theorem test_decode_shifter : reads [
    (0x000032142C03, .lshift 1 2 3),
    (0x0000FC210A03, .lshiftImm 1 2 252),
    (0x000032143C03, .orLshift 1 2 3),
    (0x0000FC211A03, .orLshiftImm 1 2 252),
    (0x000032144C03, .ashift 1 2 3),
    (0x0000FC212A03, .ashiftImm 1 2 252),
    (0x000032145C03, .orAshift 1 2 3),
    (0x0000FC213A03, .orAshiftImm 1 2 252),
    (0x000032146C03, .rot 1 2 3),
    (0x0000FC214A03, .rotImm 1 2 252),
    (0x000032147C03, .bclr 1 2 3),
    (0x0000FC215A03, .bclrImm 1 2 252),
    (0x000032148C03, .bset 1 2 3),
    (0x0000FC216A03, .bsetImm 1 2 252),
    (0x000032149C03, .btgl 1 2 3),
    (0x0000FC217A03, .btglImm 1 2 252),
    (0x00000214AC03, .btst 1 2),
    (0x00000FC18A03, .btstImm 1 252),
    (0x00003214BC03, .fdep 1 2 3),
    (0x000050521003, .fdepImm 1 2 5 20),
    (0x00003214CC03, .orFdep 1 2 3),
    (0x000050521103, .orFdepImm 1 2 5 20),
    (0x00003214DC03, .fdepSe 1 2 3),
    (0x000050521203, .fdepSeImm 1 2 5 20),
    (0x00003214EC03, .orFdepSe 1 2 3),
    (0x000050521303, .orFdepSeImm 1 2 5 20),
    (0x00003214FC03, .fext 1 2 3),
    (0x000050521403, .fextImm 1 2 5 20),
    (0x000032150C03, .fextSe 1 2 3),
    (0x000050521503, .fextSeImm 1 2 5 20),
    (0x000002151C03, .expo 1 2),
    (0x000002152C03, .expoEx 1 2),
    (0x000002153C03, .leftz 1 2),
    (0x000002154C03, .lefto 1 2),
    (0x000002155C03, .fpack 1 2),
    (0x000002156C03, .funpack 1 2)] = true := by decide +kernel

/-- Multifunction instructions, one word each, written out from the layout of Decode.lean: unit, operation, operands. -/
theorem test_decode_multifunction : reads [
    (0x000043218903, .dualAddSub 1 2 3 4),
    (0x000043219903, .dualFAddSub 1 2 3 4),
    (0x000039210803, .mulRWithAdd 1 2 1 2 3 0),
    (0x000039211803, .mulRWithSub 1 2 1 2 3 0),
    (0x000039212803, .mulRWithAvg 1 2 1 2 3 0),
    (0x000003913803, .macAddMrfWithAdd 1 1 2 3 0),
    (0x000003914803, .macAddMrfWithSub 1 1 2 3 0),
    (0x000003915803, .macAddMrfWithAvg 1 1 2 3 0),
    (0x000039216803, .macAddRMrfWithAdd 1 2 1 2 3 0),
    (0x000039217803, .macAddRMrfWithSub 1 2 1 2 3 0),
    (0x000039218803, .macAddRMrfWithAvg 1 2 1 2 3 0),
    (0x000003919803, .macSubMrfWithAdd 1 1 2 3 0),
    (0x00000391A803, .macSubMrfWithSub 1 1 2 3 0),
    (0x00000391B803, .macSubMrfWithAvg 1 1 2 3 0),
    (0x00003921C803, .macSubRMrfWithAdd 1 2 1 2 3 0),
    (0x00003921D803, .macSubRMrfWithSub 1 2 1 2 3 0),
    (0x00003921E803, .macSubRMrfWithAvg 1 2 1 2 3 0),
    (0x000039210903, .fMulWithFAdd 1 2 1 2 3 0),
    (0x000039211903, .fMulWithFSub 1 2 1 2 3 0),
    (0x000039212903, .fMulWithFloatBy 1 2 1 2 3 0),
    (0x000039213903, .fMulWithFixBy 1 2 1 2 3 0),
    (0x000039214903, .fMulWithFAvg 1 2 1 2 3 0),
    (0x000039215903, .fMulWithFAbs 1 2 1 2 3),
    (0x000039216903, .fMulWithFMax 1 2 1 2 3 0),
    (0x000039217903, .fMulWithFMin 1 2 1 2 3 0),
    (0x000039321603, .mulRWithDual 1 2 3 1 2 3 0),
    (0x000039321703, .fMulWithDual 1 2 3 1 2 3 0)] = true := by decide +kernel

/-- Moves, immediate loads, loads and stores, one word each, with a compute slot or the empty slot 15. -/
theorem test_decode_moves : reads [
    (0x194999080602, .uregMove .eq (some (.rAdd 1 2 3)) (.dag1 .i 3) (.sys .astat)),
    (0x6F56DF77990B, .loadImm (.dag1 .m 1) 0xDEADBEEF),
    (0x6A10C84033E1, .ldDmPost .tru (some (.rAdd 1 2 3)) (.r 4) 5 6),
    (0x6B0400003FE5, .stDmPost .tru none 5 6 (.dag2 .l 1)),
    (0x6B3CC84033E9, .ldPmPost .tru (some (.rAdd 1 2 3)) (.dag2 .b 7) 5 6),
    (0x6B4000003FED, .stPmPost .tru none 5 6 .px),
    (0x6B68C8403031, .ldDmPre .lt (some (.rAdd 1 2 3)) .lcntr 6 5),
    (0x6B7000003C35, .stDmPre .lt none 6 5 .tperiod),
    (0x6BA0C8403039, .ldPmPre .lt (some (.rAdd 1 2 3)) (.sys .ustat2) 6 5),
    (0x6A1000003C3D, .stPmPre .lt none 6 5 (.r 4)),
    (0x091A2B3C040F, .ldDmAbs (.r 4) 0x12345678),
    (0x40000000D013, .stDmAbs 0x80000001 .px),
    (0x0055E6F78417, .ldPmAbs (.r 4) 0xABCDEF),
    (0x00400000D91B, .stPmAbs 0x800001 .curlcntr),
    (0xCD68A0C84030, .dualMove .tru (some (.rAdd 1 2 3)) ⟨false, 4, 1, 2⟩ ⟨true, 5, 3, 6⟩),
    (0x000642019E07, .compute .nbm (.rAdd 1 2 3))] = true := by decide +kernel

/-- Program flow, bit, stack and idle instructions, one word each; PC-relative forms with 24 and with 6 bits. -/
theorem test_decode_flow : reads [
    (0x000080402F1F, .jumpAbs .lce 0x020100 true none),
    (0x003FFFFF9F23, .jumpRel .tru (-2) false none),
    (0x0F8C84033027, .jumpRel .ne (-2) true (some (.rAdd 1 2 3))),
    (0x0B000003DF2B, .jumpInd .tru 4 5 false none),
    (0x000080402F2F, .callAbs .lce 0x020100 true none),
    (0x003FFFFF9F33, .callRel .tru (-2) false none),
    (0x0F8C84033037, .callRel .ne (-2) true (some (.rAdd 1 2 3))),
    (0x0B000003DF3B, .callInd .tru 4 5 false none),
    (0x000C84033F3F, .rts .tru true (some (.rAdd 1 2 3))),
    (0x000C84033F43, .rtsLr .tru true (some (.rAdd 1 2 3))),
    (0x000C84033F47, .rti .tru true (some (.rAdd 1 2 3))),
    (0x00010280404B, .jumpLa .eq (.abs 0x020500) false true none),
    (0x00000002BF4F, .jumpLa .tru (.rel 5) true false none),
    (0x1F9908063F53, .jumpLa .tru (.rel (-1)) true false (some (.rAdd 1 2 3))),
    (0x089908061F57, .jumpLa .tru (.ind 1 2) false false (some (.rAdd 1 2 3))),
    (0x000081403F5B, .jumpCi .tru (.abs 0x020500) true none),
    (0x000000015F5F, .jumpCi .tru (.rel 5) false none),
    (0x0FCC84031F63, .jumpCi .tru (.rel (-1)) false (some (.rAdd 1 2 3))),
    (0x04400003FF67, .jumpCi .tru (.ind 1 2) true none),
    (0x00004020EF6B, .doAbs 0x020107 .lce),
    (0x00000000606F, .doRel 3 .eq),
    (0x001E02010773, .doCountImm 30 ⟨0x020107, .lce⟩),
    (0x078402010777, .doCountUreg (.r 4) ⟨0x020107, .lce⟩),
    (0x08000100007B, .bitSet .mode1 0x80001000),
    (0x08000100067F, .bitClr .stky 0x80001000),
    (0x080001000783, .bitTgl .ustat1 0x80001000),
    (0x080001000387, .bitTst .imask 0x80001000),
    (0x08000100048B, .bitXor .imaskp 0x80001000),
    (0x00000000098F, .pushLoop .push .pop),
    (0x000000000493, .popLoop .none .push),
    (0x000000000297, .pushSts .pop),
    (0x00000000009B, .popSts .none),
    (0x00000000009F, .pushPcstk),
    (0x0000000000A3, .popPcstk),
    (0x0000000000A7, .idle16),
    (0x0000000000AB, .idle),
    (0x0000000000AF, .nop)] = true := by decide +kernel

/-- Words no instruction has: an unused code, an unused unit, a set bit that no field uses. -/
theorem test_decode_rejects :
    decodeTableWord 48 0x0000000000B3 = none ∧ decodeTableWord 48 0x000000000D03 = none ∧
      decodeTableWord 48 0x0000000001AF = none := by decide +kernel

/-! The worked vectors. -/

/-- V-ALU-1 to V-ALU-38 of spec/95_test_vectors.md, at most two an instruction. -/
theorem test_fixed_alu_vectors : (
  leaves (.rAdd 0 1 2) (two 0x7FFFFFFF00 0x100) [(0, 0x8000000000)] none 0x00000006 0x00000004 &&
  leaves (.rAdd 0 1 2) (mode 0x2000 (two 0x7FFFFFFF00 0x100)) [(0, 0x7FFFFFFF00)] none 0x00000002 0x00000004 &&
  leaves (.rSub 1 0 15) (withR 15 0x700 (withR 0 0x500 start)) [(1, 0xFFFFFFFE00)] none 0x00000004 0 &&
  leaves (.rSub 0 1 2) (two 0x500 0x500) [(0, 0)] none 0x00000009 0 &&
  leaves (.rAddCi 0 1 2) (flagged 8 (two 0xFFFFFFFF00 0)) [(0, 0)] none 0x00000009 0 &&
  leaves (.rSubCi 0 1 2) (two 0x500 0x500) [(0, 0xFFFFFFFF00)] none 0x00000004 0 &&
  leaves (.rSubCi 0 1 2) (flagged 8 (two 0x500 0x700)) [(0, 0xFFFFFFFE00)] none 0x00000004 0 &&
  leaves (.rAvg 0 1 2) (two 0x600 0x200) [(0, 0x400)] none 0 0 &&
  leaves (.rAvg 0 1 2) (two 0x100 0x200) [(0, 0x200)] none 0 0 &&
  leaves (.rComp 1 2) (flagged 0x80000000 (two 0x300 0x500)) [] none 0x40000004 0 &&
  leaves (.rComp 1 2) (flagged 0x40000000 (two 0x500 0xFFFFFFFF00)) [] none 0xA0000000 0 &&
  leaves (.rPlusCi 0 1) (flagged 8 (two 0x7FFFFFFF00 0)) [(0, 0x8000000000)] none 0x00000006 0x00000004 &&
  leaves (.rPlusCiLess1 0 1) (two 0 0) [(0, 0xFFFFFFFF00)] none 0x00000004 0 &&
  leaves (.rPlusCiLess1 0 1) (flagged 8 (two 0x500 0)) [(0, 0x500)] none 0x00000008 0 &&
  leaves (.rInc 0 1) (two 0xFFFFFFFF00 0) [(0, 0)] none 0x00000009 0 &&
  leaves (.rDec 0 1) (two 0x8000000000 0) [(0, 0x7FFFFFFF00)] none 0x0000000A 0x00000004 &&
  leaves (.rNeg 0 1) (two 0x100 0) [(0, 0xFFFFFFFF00)] none 0x00000004 0 &&
  leaves (.rNeg 0 1) (two 0x8000000000 0) [(0, 0x8000000000)] none 0x00000006 0x00000004 &&
  leaves (.rAbs 0 1) (two 0xFFFFFFFB00 0) [(0, 0x500)] none 0x00000010 0 &&
  leaves (.rAbs 0 1) (two 0x8000000000 0) [(0, 0x8000000000)] none 0x00000016 0x00000004 &&
  leaves (.rPass 0 1) (two 0x80000000FF 0) [(0, 0x8000000000)] none 0x00000004 0 &&
  leaves (.rAnd 0 1 2) (two 0xFF00FF0000 0x0F0F0F0F00) [(0, 0x0F000F0000)] none 0 0 &&
  leaves (.rOr 0 1 2) (two 0x8000000000 0x100) [(0, 0x8000000100)] none 0x00000004 0 &&
  leaves (.rXor 0 1 2) (two 0x1234567800 0x1234567800) [(0, 0)] none 0x00000001 0 &&
  leaves (.rNot 0 1) (two 0xFF 0x100) [(0, 0xFFFFFFFF00)] none 0x00000004 0 &&
  leaves (.rMin 0 1 2) (two 0xFFFFFFFF00 0x100) [(0, 0xFFFFFFFF00)] none 0x00000004 0 &&
  leaves (.rMax 0 1 2) (two 0xFFFFFFFF00 0x100) [(0, 0x100)] none 0 0 &&
  leaves (.rClip 0 1 2) (two 0x6400 0xA00) [(0, 0xA00)] none 0 0 &&
  leaves (.rClip 0 1 2) (two 0xFFFFFF9C00 0xA00) [(0, 0xFFFFFFF600)] none 0x00000004 0) = true := by decide +kernel

/-- V-FLT-1 to V-FLT-35 of spec/95_test_vectors.md, at most two an instruction. -/
theorem test_float_alu_vectors : (
  leaves (.fAdd 0 1 2) (two 0x3F80000000 0x4000000000) [(0, 0x4040000000)] none 0x00000400 0 &&
  leaves (.fSub 0 1 2) (two 0x3F80000000 0x4000000000) [(0, 0xBF80000000)] none 0x00000404 0 &&
  leaves (.fSub 0 1 1) (two 0x3F80000000 0x4000000000) [(0, 0)] none 0x00000401 0 &&
  leaves (.fAdd 0 1 2) (two 0x7F7FFFFFFF 0x7F7FFFFFFF) [(0, 0x7F80000000)] none 0x00000402 0x00000002 &&
  leaves (.fRnd 0 1) (two 0x3F800000FF 0) [(0, 0x3F80000100)] none 0x00000400 0 &&
  leaves (.fRnd 0 1) (mode 0x8000 (two 0x3F800000FF 0)) [(0, 0x3F80000000)] none 0x00000400 0 &&
  leaves (.fAbsAdd 0 1 2) (two 0xBF80000000 0xC000000000) [(0, 0x4040000000)] none 0x00000400 0 &&
  leaves (.fAbsSub 0 1 2) (two 0x3F80000000 0x4000000000) [(0, 0x3F80000000)] none 0x00000400 0 &&
  leaves (.fAvg 0 1 2) (two 0x3F80000000 0x4000000000) [(0, 0x3FC0000000)] none 0x00000400 0 &&
  leaves (.fComp 1 2) (two 0x3F80000000 0x4000000000) [] none 0x00000404 0 &&
  leaves (.fComp 2 1) (two 0x3F80000000 0x4000000000) [] none 0x80000400 0 &&
  leaves (.fNeg 0 1) (two 0x3F80000000 0) [(0, 0xBF80000000)] none 0x00000404 0 &&
  leaves (.fAbs 0 1) (two 0xBF80000000 0) [(0, 0x3F80000000)] none 0x00000410 0 &&
  leaves (.fPass 0 1) (two 0x100 0) [(0, 0)] none 0x00000401 0 &&
  leaves (.fScalb 0 1 2) (two 0x3FC0000000 0x300) [(0, 0x4140000000)] none 0x00000400 0 &&
  leaves (.fScalb 0 1 2) (two 0x3F80000000 0x8000) [(0, 0x7F80000000)] none 0x00000402 0x00000002 &&
  leaves (.fMant 0 1) (two 0x3FC0000000 0) [(0, 0xC000000000)] none 0x00000400 0 &&
  leaves (.fMant 0 1) (two 0xBFC0000000 0) [(0, 0xC000000000)] none 0x00000410 0 &&
  leaves (.fLogb 0 1) (two 0x4140000000 0) [(0, 0x300)] none 0x00000400 0 &&
  leaves (.fLogb 0 1) (two 0x3F00000000 0) [(0, 0xFFFFFFFF00)] none 0x00000404 0 &&
  leaves (.fFixBy 0 1 2) (two 0x3FC0000000 0x200) [(0, 0x600)] none 0x00000400 0 &&
  leaves (.fFixBy 0 1 2) (two 0x7FC0000000 0x200) [(0, 0xFFFFFFFF00)] none 0x00000424 0x00000020 &&
  leaves (.fFix 0 1) (two 0x4020000000 0x200) [(0, 0x200)] none 0x00000400 0 &&
  leaves (.fFix 0 1) (two 0x4060000000 0x200) [(0, 0x400)] none 0x00000400 0 &&
  leaves (.fFloatBy 0 1 2) (two 0x300 0xFFFFFFFF00) [(0, 0x3FC0000000)] none 0x00000400 0 &&
  leaves (.fFloat 0 1) (two 0x300 0xFFFFFFFF00) [(0, 0x4040000000)] none 0x00000400 0 &&
  leaves (.fFloat 0 1) (two 0xFFFFFFFF00 0xFFFFFFFF00) [(0, 0xBF80000000)] none 0x00000404 0 &&
  leaves (.fCopysign 0 1 2) (two 0x3F80000000 0xC000000000) [(0, 0xBF80000000)] none 0x00000404 0 &&
  leaves (.fMin 0 1 2) (two 0x3F80000000 0xC000000000) [(0, 0xC000000000)] none 0x00000404 0 &&
  leaves (.fMax 0 1 2) (two 0x3F80000000 0xC000000000) [(0, 0x3F80000000)] none 0x00000400 0 &&
  leaves (.fClip 0 1 2) (two 0x40A0000000 0x4000000000) [(0, 0x4000000000)] none 0x00000400 0 &&
  leaves (.fClip 0 1 2) (two 0xC0A0000000 0x4000000000) [(0, 0xC000000000)] none 0x00000404 0 &&
  leaves (.fRecips 0 1) (two 0x7FC0000000 0x4000000000) [(0, 0xFFFFFFFFFF)] none 0x00000420 0x00000020 &&
  leaves (.fRsqrts 0 1) (two 0x7FC0000000 0x4000000000) [(0, 0xFFFFFFFFFF)] none 0x00000420 0x00000020) = true := by decide +kernel

/-- V-MUL-1 to V-MUL-19 of spec/95_test_vectors.md, at most two an instruction. -/
theorem test_multiplier_vectors : (
  leaves (.mulR 0 1 2 ssf) (two 0x4000000000 0x4000000000) [(0, 0x2000000000)] none 0 0 &&
  leaves (.mulR 0 1 2 ssi) (two 0x300 0xFFFFFFFE00) [(0, 0xFFFFFFFA00)] none 0x00000040 0 &&
  leaves (.mulMrf 1 2 ssf) (two 0x100 0x100) [] (some 0x00000000000000000002) 0x00000100 0x00000100 &&
  leaves (.rndRMrf 0 .s) (withMrf 0x180000000 start) [(0, 0x200)] none 0 0 &&
  leaves (.rndRMrf 0 .s) (withMrf 0x280000000 start) [(0, 0x200)] none 0 0 &&
  leaves (.satRMrf 0 ⟨.s,true⟩) (withMrf 0x00010000000000000000 start) [(0, 0x7FFFFFFF00)] none 0 0 &&
  leaves (.satMrf ⟨.s,true⟩) (withMrf 0xFFFF0000000000000000 start) [] (some 0xFFFF8000000000000000) 0x00000040 0 &&
  leaves (.rdMr2f 0) (withMrf 0x8000123456789ABCDEF0 start) [(0, 0xFFFF800000)] none 0 0 &&
  leaves (.rdMr1f 0) (withMrf 0x8000123456789ABCDEF0 start) [(0, 0x1234567800)] none 0 0 &&
  leaves (.rdMr0f 0) (withMrf 0x8000123456789ABCDEF0 start) [(0, 0x9ABCDEF000)] none 0 0 &&
  leaves (.wrMr1f 1) (withR 1 0x8000000000 start) [] (some 0xFFFF8000000000000000) 0 0 &&
  leaves (.wrMr0f 1) (withR 1 0x8000000000 (withMrf 0xFFFF8000000000000000 start)) [] (some 0xFFFF8000000080000000) 0 0 &&
  leaves (.wrMr2f 1) (withR 1 0x8000000000 (withMrf 0xFFFF8000000080000000 start)) [] (some 0x00008000000080000000) 0 0 &&
  leaves (.macAddMrf 1 2 ssf) (withMrf 0x00002000000000000000 (two 0x4000000000 0x4000000000)) [] (some 0x00004000000000000000) 0 0 &&
  leaves (.macSubMrf 1 2 ssf) (two 0x4000000000 0x4000000000) [] (some 0xFFFFE000000000000000) 0x00000040 0 &&
  leaves (.clrMrf) (flagged 0x3C0 (withMrf 0x00002000000000000000 start)) [] (some 0) 0 0 &&
  leaves (.fMul 0 1 2) (two 0x3FC0000000 0x4000000000) [(0, 0x4040000000)] none 0 0 &&
  leaves (.fMul 0 1 2) (two 0x7F80000000 0) [(0, 0xFFFFFFFFFF)] none 0x00000200 0x00000200) = true := by decide +kernel

/-- V-SH-1 to V-SH-27 of spec/95_test_vectors.md, at most two an instruction. -/
theorem test_shifter_vectors : (
  leaves (.lshiftImm 0 1 4) (two 0xFF00 0) [(0, 0xFF000)] none 0 0 &&
  leaves (.lshiftImm 0 1 (-4)) (two 0xFF00 0) [(0, 0xF00)] none 0 0 &&
  leaves (.lshift 0 1 2) (two 0xFFFFFFFF00 0x2000) [(0, 0)] none 0x00001800 0 &&
  leaves (.lshift 0 1 2) (two 0xFFFFFFFF00 0xFFFFFFE000) [(0, 0)] none 0x00001000 0 &&
  leaves (.orLshiftImm 0 1 8) (withR 0 0x100 (two 0xFF00 0)) [(0, 0xFF0100)] none 0 0 &&
  leaves (.ashiftImm 0 1 (-4)) (two 0x8000000000 0) [(0, 0xF800000000)] none 0 0 &&
  leaves (.ashiftImm 0 1 1) (two 0x4000000000 0) [(0, 0x8000000000)] none 0x00000800 0 &&
  leaves (.orAshiftImm 0 1 (-31)) (withR 0 0x100 (two 0x8000000000 0)) [(0, 0xFFFFFFFF00)] none 0 0 &&
  leaves (.rotImm 0 1 1) (two 0x8000000100 0) [(0, 0x300)] none 0 0 &&
  leaves (.rotImm 0 1 (-1)) (two 0x8000000100 0) [(0, 0xC000000000)] none 0 0 &&
  leaves (.bclrImm 0 1 0) (two 0xFF00 0) [(0, 0xFE00)] none 0 0 &&
  leaves (.bclrImm 0 1 32) (two 0xFF00 0) [(0, 0xFF00)] none 0x00000800 0 &&
  leaves (.bsetImm 0 1 5) (two 0 0) [(0, 0x2000)] none 0 0 &&
  leaves (.bsetImm 0 1 40) (two 0 0) [(0, 0)] none 0x00001800 0 &&
  leaves (.btglImm 0 1 5) (two 0x2000 0) [(0, 0)] none 0x00001000 0 &&
  leaves (.btstImm 1 5) (two 0x2000 0) [] none 0 0 &&
  leaves (.btstImm 1 4) (two 0x2000 0) [] none 0x00001000 0 &&
  leaves (.fdep 0 1 2) (two 0xFF00 0x21000) [(0, 0xFF000000)] none 0 0 &&
  leaves (.fdepImm 0 1 28 8) (two 0xFF00 0x21000) [(0, 0xF000000000)] none 0x00000800 0 &&
  leaves (.orFdep 0 1 2) (withR 0 0x100 (two 0xFF00 0x21000)) [(0, 0xFF000100)] none 0 0 &&
  leaves (.fdepSe 0 1 2) (two 0xFF00 0x21000) [(0, 0xFFFF000000)] none 0 0 &&
  leaves (.orFdepSe 0 1 2) (withR 0 0x100 (two 0xFF00 0x21000)) [(0, 0xFFFF000100)] none 0 0 &&
  leaves (.fext 3 4 5) (withR 5 0x21700 (withR 4 0x8788000000 start)) [(3, 0xF00)] none 0 0 &&
  leaves (.fextImm 3 4 28 8) (withR 5 0x21700 (withR 4 0xF000000000 start)) [(3, 0xF00)] none 0x00000800 0 &&
  leaves (.fextSe 3 4 5) (withR 5 0x21800 (withR 4 0x8788000000 start)) [(3, 0xFFFFFF8700)] none 0 0 &&
  leaves (.expo 0 1) (two 0x1000000 0) [(0, 0xFFFFFFF200)] none 0 0 &&
  leaves (.expo 0 1) (two 0x4000000000 0) [(0, 0)] none 0x00001000 0 &&
  leaves (.expoEx 0 1) (flagged 2 (two 0x8000000000 0)) [(0, 0x100)] none 0x00002002 0 &&
  leaves (.leftz 0 1) (two 0x1000000 0) [(0, 0xF00)] none 0 0 &&
  leaves (.leftz 0 1) (two 0 0) [(0, 0x2000)] none 0x00000800 0 &&
  leaves (.lefto 0 1) (two 0xFFFFFFFF00 0) [(0, 0x2000)] none 0x00000800 0 &&
  leaves (.lefto 0 1) (two 0 0) [(0, 0)] none 0x00001000 0 &&
  leaves (.fpack 0 1) (two 0x3F80000000 0) [(0, 0x380000)] none 0 0 &&
  leaves (.funpack 0 1) (two 0x380000 0) [(0, 0x3F80000000)] none 0 0) = true := by decide +kernel

/-- V-MF-1 to V-MF-3 of spec/95_test_vectors.md. -/
theorem test_multifunction_vectors : (
  leaves (.dualAddSub 0 3 1 2) (two 0x500 0x700) [(0, 0xC00), (3, 0xFFFFFFFE00)] none 0x00000004 0 &&
  leaves (.dualFAddSub 0 3 1 2) (two 0x3F80000000 0x4000000000) [(0, 0x4040000000), (3, 0xBF80000000)] none 0x00000404 0 &&
  leaves (.mulRWithAdd 5 6 0 0 0 0) (withR 0 0x4000000000 (withR 4 0x4000000000 (withR 8 0x100 (withR 12 0x200 start)))) [(5, 0x2000000000), (6, 0x300)] none 0 0) = true := by decide +kernel

/-! Moves, program flow, system registers and interrupts: one step each. -/

/-- A 32-bit word in memory. -/
def holding (a : Nat) (v : W32) (s : State) : State := { s with mem := writeColumn s.mem a .w32 .dm false (bus32 v) }

/-- I1 and M2 of DAG1. -/
def pointing (i m : W32) (s : State) : State :=
  { s with dag1 := { s.dag1 with i := s.dag1.i.set 1 i, m := s.dag1.m.set 2 m } }

/-- An instruction word at an address. -/
def placed (a : Nat) (i : Instr) (s : State) : State :=
  { s with mem := s.mem.writeBytes (wordKey a) 6 (encode i).toNat }

/-- V-MF-4, V-MV-1 to V-MV-8 and the circular buffer of spec/95_test_vectors.md; V-MV-5 with a 40-bit word in an instruction-width word
of the model's default map. -/
theorem test_move_vectors : (
  gives (.ldDmPost .tru (some (.macSubMrf 5 0 ssf)) (.r 6) 1 2)
    (pointing 0x21000 1 (holding 0x21000 7 (withR 5 0x4000000000 (withR 0 0x4000000000 start))))
    (fun t => t.mr.get 0 == 0xFFFFE000000000000000 && t.rf.get 6 == 0x700 && t.dag1.i.get 1 == 0x21001 && t.astat == 0x40) &&
  gives (.uregMove .tru none (.r 0) (.sys .mode1)) (mode 0x2000 start) (fun t => t.rf.get 0 == 0x200000) &&
  gives (.loadImm (.r 0) 0x12345678) start (fun t => t.rf.get 0 == 0x1234567800) &&
  gives (.ldDmPost .tru none (.r 6) 1 2) (pointing 0x21000 1 (holding 0x21000 0x12345678 start))
    (fun t => t.rf.get 6 == 0x1234567800 && t.dag1.i.get 1 == 0x21001) &&
  gives (.stDmPost .tru none 1 2 (.r 6)) (pointing 0x21000 (-1) (withR 6 0x12345678AB start))
    (fun t => readColumn t.mem 0x21000 .w32 false == some 0x123456780000 && t.dag1.i.get 1 == 0x20FFF) &&
  gives (.ldPmPost .tru none (.r 2) 0 0)
    { storeWord start .pm false 0x20400 0x3F8000000000 with
      dag2 := { start.dag2 with i := start.dag2.i.set 0 0x20400, m := start.dag2.m.set 0 1 } }
    (fun t => t.rf.get 2 == 0x3F80000000 && t.dag2.i.get 0 == 0x20401) &&
  gives (.ldDmPre .tru none (.r 6) 2 1) (pointing 0x21000 4 (holding 0x21004 9 start))
    (fun t => t.rf.get 6 == 0x900 && t.dag1.i.get 1 == 0x21000) &&
  gives (.uregMove .tru none (.r 0) (.r 1)) (withR 1 0x12345678AB start) (fun t => t.rf.get 0 == 0x12345678AB) &&
  gives (.uregMove .tru none (.sys .ustat1) (.r 1)) (withR 1 0x12345678AB start) (fun t => t.ustat1 == 0x12345678) &&
  gives (.ldDmPost .tru none (.r 0) 0 0)
    { holding 0x21002 5 start with
      dag1 := { start.dag1 with
        i := start.dag1.i.set 0 0x21002, m := start.dag1.m.set 0 3, l := start.dag1.l.set 0 4
        b := start.dag1.b.set 0 0x21000 } }
    (fun t => t.rf.get 0 == 0x500 && t.dag1.i.get 0 == 0x21001)) = true := by decide +kernel

/-- Both sides of the two-move form: a load over DM and a store over PM; the DM load wins over the computation (R25). -/
theorem test_dual_move :
    gives (.dualMove .tru (some (.rInc 4 5)) ⟨false, 4, 1, 2⟩ ⟨true, 5, 3, 6⟩)
      { pointing 0x21000 1 (holding 0x21000 9 (withR 5 0x1234567800 start)) with
        dag2 := { start.dag2 with i := start.dag2.i.set 3 0x30000 } }
      (fun t => t.rf.get 4 == 0x900 && readColumn t.mem 0x30000 .w32 false == some 0x123456780000 &&
        t.dag1.i.get 1 == 0x21001) = true := by decide +kernel

/-- A subroutine was called from 0x020100. -/
def called : State := { start with pcstkp := 1, pcs := start.pcs.set 0 0x020101 }

/-- In the body of a loop from 0x0200F0 on that ends at `e`, the count in its cell. -/
def looping (e : A24) (term : Cond) (kind : Nat) (count : W32) : State :=
  { start with
    lsp := 1, las := start.las.set 0 (levelWord e term kind), lcs := start.lcs.set 0 count
    pcstkp := 1, pcs := start.pcs.set 0 0x0200F0 }

/-- V-FLOW-1 to V-FLOW-9 of spec/95_test_vectors.md. -/
theorem test_branch_vectors : (
  gives (.jumpAbs .tru 0x20200 false none) start (fun t => t.pc == 0x20200) &&
  gives (.jumpAbs .tru 0x20200 true none) start (fun t => t.pc == 0x20101 && t.dbr == some ⟨0x20200, true⟩) &&
  gives (.jumpRel .tru 3 false none) start (fun t => t.pc == 0x20103) &&
  gives (.jumpRel .tru (-2) false none) start (fun t => t.pc == 0x200FE) &&
  gives (.jumpInd .tru 4 4 false none) { start with dag2 := { start.dag2 with i := start.dag2.i.set 4 0x20300 } }
    (fun t => t.pc == 0x20300 && t.dag2.i.get 4 == 0x20300) &&
  gives (.callAbs .tru 0x20400 false none) start
    (fun t => t.pc == 0x20400 && t.pcstkp == 1 && pcTop t == some 0x20101 && !bitOf (readSreg t .stky) 22) &&
  gives (.callAbs .tru 0x20400 true none) start
    (fun t => t.pc == 0x20101 && t.pcstkp == 1 && pcTop t == some 0x20103) &&
  gives (.rts .tru false none) called (fun t => t.pc == 0x20101 && t.pcstkp == 0) &&
  gives (.jumpLa .eq (.abs 0x20500) false false none) (flagged 1 (looping 0x20110 .eq 0 0))
    (fun t => t.pc == 0x20500 && t.pcstkp == 0 && t.lsp == 0) &&
  gives (.callAbs .tru 0x20400 false none) { start with pcstkp := 28 }
    (fun t => t.pcstkp == 29 && t.irptl == 8 && bitOf (readSreg t .stky) 21)) = true := by decide +kernel

/-- IF `c` R0 = R1 + R2 with R1 = R2 = 1 runs (or does not). -/
def runsIf (c : Cond) (s : State) : Bool :=
  gives (.compute c (.rAdd 0 1 2)) (withR 1 0x100 (withR 2 0x100 s)) fun t => t.rf.get 0 == 0x200

/-- V-FLOW-10 to V-FLOW-14 of spec/95_test_vectors.md. -/
theorem test_condition_vectors :
    runsIf .lt (flagged 6 start) = false ∧ runsIf .lt (flagged 2 start) = true ∧
      runsIf .lt (flagged 2 (mode 0x2000 start)) = false ∧ runsIf .le (flagged 0x401 start) = true ∧
      runsIf .gt (flagged 0x401 start) = false ∧ runsIf .lce start = true := by decide +kernel

/-- V-FLOW-15 to V-FLOW-21 of spec/95_test_vectors.md. -/
theorem test_system_vectors : (
  gives (.bitSet .mode1 0x1000) start (fun t => t.mode1 == 0x1000) &&
  gives (.bitClr .stky 4) { start with stky := 4 } (fun t => t.stky == 0) &&
  gives (.bitTgl .ustat1 0xFF) { start with ustat1 := 0xF } (fun t => t.ustat1 == 0xF0) &&
  gives (.bitTst .mode1 0x1000) (mode 0x1400 start) (fun t => t.astat == 0x40000) &&
  gives (.bitTst .mode1 0x3000) (mode 0x1400 start) (fun t => t.astat == 0) &&
  gives (.bitXor .ustat1 0x55) { start with ustat1 := 0x55 } (fun t => t.astat == 0x40000) &&
  gives (.pushSts .none) (flagged 0x55 (mode 0x800 start))
    (fun t => t.sts == [(0x55, 0x800)] && t.astat == 0x55 && t.mode1 == 0x800) &&
  gives (.popSts .none) { start with sts := [(0x55, 0x800)] }
    (fun t => t.sts == [] && t.astat == 0x55 && t.mode1 == 0x800) &&
  gives .nop start (fun t => t == { start with pc := 0x020101, drawn := 1 })) = true := by decide +kernel

/-- V-LOOP-2: the count goes down at e - 2 and at 1 the stacks are popped; V-LOOP-4: a one-instruction loop of 3. -/
theorem test_loop_vectors : (
  gives (.doCountImm 4 ⟨0x020103, .lce⟩) start
    (fun t => loopTop t == some ⟨0x020103, .lce, 3, 4, 3⟩ && t.pcstkp == 1 && pcTop t == some 0x020101) &&
  gives .nop (looping 0x020102 .lce 3 4) (fun t => curlcntr t == 3 && t.lsp == 1 && t.pc == 0x020101) &&
  gives .nop (looping 0x020102 .lce 3 1) (fun t => t.lsp == 0 && t.pcstkp == 0 && readLcntr t == 0) &&
  gives .nop (looping 0x020100 .lce 3 3) (fun t => t.pc == 0x0200F0) &&
  gives .nop { looping 0x020100 .lce 1 3 with pcs := start.pcs.set 0 0x020100 }
    (fun t => t.lsp == 0 && t.pc == 0x020100 && t.tail == some ⟨0x020100, 0x020100, 1, true⟩)) = true := by
  decide +kernel

/-- A valid request of IRQ1I before the instruction at 0x020108 (V-INT-1). -/
def requested : State :=
  { placed 0x20108 .nop start with pc := 0x20108, mode1 := 0x1000, irptl := 0x80, imask := 0x80, astat := 0x55 }

/-- V-INT-1 to V-INT-7 of spec/95_test_vectors.md. -/
theorem test_interrupt_vectors : (
  stepGives requested (fun t => t.pcstkp == 1 && pcTop t == some 0x20108 && t.sts == [(0x55, 0x1000)] &&
    t.irptl == 0 && t.imaskp == 0x80 && t.pc == 0x2001C) &&
  stepGives { requested with irptl := 0x1000000, imask := 0x1000000 }
    (fun t => t.sts == [] && t.imaskp == 0x1000000 && t.pc == 0x20060) &&
  stepGives { requested with mode1 := 0 } (fun t => t.pcstkp == 0 && t.irptl == 0x80 && t.pc == 0x20109) &&
  stepGives { requested with irptl := 0x180, imask := 0x180 }
    (fun t => t.imaskp == 0x80 && t.irptl == 0x100 && t.pc == 0x2001C) &&
  stepGives { requested with irptl := 0x40, imask := 0x1C0, imaskp := 0x80 }
    (fun t => t.irptl == 0x40 && t.pc == 0x20109) &&
  stepGives { requested with irptl := 0x40, imask := 0x1C0, imaskp := 0x80, mode1 := 0x1800 }
    (fun t => t.imaskp == 0xC0 && t.irptl == 0 && t.pc == 0x20018) &&
  stepGives { requested with irptl := 0x100, imask := 0x1C0, imaskp := 0x80, mode1 := 0x1800 }
    (fun t => t.imaskp == 0x80 && t.irptl == 0x100 && t.pc == 0x20109)) = true := by decide +kernel

/-- V-INT-8, V-INT-9: RTI; V-INT-13: the timer at 0 requests both its interrupts and reloads. -/
theorem test_return_and_timer_vectors : (
  gives (.rti .tru false none) { called with imaskp := 0x80, sts := [(0x55, 0x800)] }
    (fun t => t.pc == 0x20101 && t.pcstkp == 0 && t.astat == 0x55 && t.mode1 == 0x800 && t.imaskp == 0) &&
  gives (.rti .tru false none) { called with imaskp := 0xC0, sts := [(0x55, 0x800), (1, 1)] }
    (fun t => t.sts.length == 1 && t.imaskp == 0x80) &&
  stepGives { placed 0x20100 .nop start with mode2 := 0x20, tcount := 1, tperiod := 2 }
    (fun t => t.tcount == 0 && t.irptl == 0) &&
  stepGives { placed 0x20100 .nop start with mode2 := 0x20, tcount := 0, tperiod := 2 }
    (fun t => t.tcount == 2 && t.irptl == 0x800010)) = true := by decide +kernel

/-- The first step after reset runs the word placed by `withFetchWord`. -/
theorem test_first_step :
    stepGives (State.reset.withFetchWord 48 (encode (.loadImm (.r 3) 0xDEADBEEF)).toNat)
      (fun t => t.rf.get 3 == 0xDEADBEEF00 && t.pc == 0x020005) = true := by decide +kernel

/-! Parts, widths, delay slots. -/

/-- R3, R8: the default map of each part fits it, and that of the ADSP-21060 does not fit the ADSP-21062. -/
theorem test_default_maps_fit :
    (∀ p : Part, p = .adsp21060 ∨ p = .adsp21062 ∨ p = .adsp21061 → (Config.paramsFor p).fitsPart = true) ∧
      { Config.params with part := .adsp21062 }.fitsPart = false := by
  refine ⟨fun p h => ?_, by decide +kernel⟩
  obtain rfl | rfl | rfl := h <;> decide +kernel

/-- R110, D4: a word PX stored with 48 bits is not loaded with 40. -/
theorem test_width_mismatch :
    readWord (storeWord start .pm true 0x20400 0x3F8000000055) .pm false 0x20400 = .error (.refuse .widthMismatch) ∧
      readWord (storeWord start .pm true 0x20400 0x3F8000000055) .pm true 0x20400 = .ok 0x3F8000000055 := by
  decide +kernel

/-- R440: the slots of an untaken delayed branch are still restricted in the routine's return. -/
theorem test_slots_over_interrupt :
    gives (.jumpAbs .eq 0x20200 true none) start
      (fun t => t.slots == [0x20101, 0x20102] && (takeInterrupt t 7).slots == t.slots && inSlot t) = true := by
  decide +kernel

/-- R238: the root seed of a negative number is NAN1, of Infinity Zero; R237: the reciprocal of an Infinity is Zero
with the operand's sign, which AN follows. -/
theorem test_seed_special_values : (
    leaves (.fRsqrts 0 1) (two 0xC000000000 0) [(0, 0xFFFFFFFFFF)] none 0x00000420 0x00000020 &&
    leaves (.fRsqrts 0 1) (two 0x7F80000000 0) [(0, 0)] none 0x00000401 0 &&
    leaves (.fRecips 0 1) (two 0xFF80000000 0) [(0, 0x8000000000)] none 0x00000405 0) = true := by decide +kernel

/-- The instruction stops with this refusal. -/
def refuses (i : Instr) (s : State) (r : Refusal) : Bool :=
  match exec i s with
  | .refused q => q == r
  | .next _ => false
  | .fault _ => false

/-- A loop that ends at 0x020100 inside one that ends at `e`, `kind` its type code. -/
def nested (kind : Nat) (e : A24) : State :=
  { start with
    lsp := 2, las := (start.las.set 0 (levelWord e .eq kind)).set 1 (levelWord 0x020100 .lce 3), lcs := .replicate 7 2
    pcstkp := 2, pcs := (start.pcs.set 0 0x0200E0).set 1 0x0200F0 }

/-- R449, R599: nested loops that a write of LADDR made end on one instruction are refused there, and so is an outer loop
that is not counter-based less than two addresses on; R437, U33: a return to the end of an outer counter-based loop is. -/
theorem test_nested_loops : (
    refuses .nop (nested 3 0x020100) .nestedLoopEnds && refuses .nop (nested 0 0x020101) .nestedLoopEnds &&
    refuses .nop { nested 3 0x020100 with pc := 0x0200FE } .nestedLoopEnds &&
    gives .nop (nested 0 0x020102) (fun t => t.pc == 0x0200F0) &&
    gives .nop { nested 3 0x020100 with pc := 0x0200FD } (fun t => t.pc == 0x0200FE) &&
    refuses (.rts .tru false none)
      { nested 3 0x020110 with pc := 0x020050, pcstkp := 3, pcs := (nested 3 0x020110).pcs.set 2 0x02010F }
      .plainReturnIntoLoop) = true := by decide +kernel

/-- R449: IF NOT LCE is refused right after a load of CURLCNTR, made or not; R35, U8: a return and a pop of the overflowed
PC stack go on. -/
theorem test_counter_load_and_overflowed_stack :
    (match exec (.ldDmPre .eq none .curlcntr 0 0) start with
      | .next t => refuses (.compute .lce (.rInc 1 2)) t .notLceAfterCounterLoad && !t.astat.getLsbD 0
      | .fault _ => false
      | .refused _ => false) = true ∧
    gives (.rts .tru false none) { start with pcstkp := 31 } (fun _ => true) = true ∧
    gives .popPcstk { start with pcstkp := 31 } (fun t => t.pc == 0x020101) = true ∧
    refuses (.rts .tru false none) start .emptyStackPop = true := by decide +kernel

/-- `s` with one entry in the parameter Numerics. -/
def naming (op : NumericOp) (x y : W40) (r : NumericOut) (s : State) : State :=
  { s with cfg := { s.cfg with numerics := [(⟨op, x, y, trunc s, rnd32 s, alusat s⟩, r)] } }

/-- R217: a result that the parameter Numerics names stands for the reference's, with the flags the row marks; an invalid
operation stays invalid. -/
theorem test_numerics_parameter :
    let r : NumericOut := ⟨0x8000000001, false, true, false, false, false, true⟩
    let named := fun (op : NumericOp) (x y : W40) (s : State) => naming op x y r s
    (leaves (.fAdd 0 1 2) (named .fAdd 0x3F80000000 0xC000000000 (two 0x3F80000000 0xC000000000))
        [(0, 0x8000000001)] none 0x00000406 0x00000003 &&
      leaves (.fMin 0 1 2) (named .fMin 0x3F80000000 0xC000000000 (two 0x3F80000000 0xC000000000))
        [(0, 0x8000000001)] none 0x00000404 0 &&
      leaves (.fAdd 0 1 2) (naming .fAdd 0x7FC0000000 0 ⟨0x3F80000000, false, false, false, false, false, false⟩
        (two 0x7FC0000000 0)) [(0, 0xFFFFFFFFFF)] none 0x00000420 0x20) = true := by decide +kernel

/-- R227: a named ABS stays positive with AN 0; R238: a named RSQRTS of a negative number may be valid; U14: with RND32 a
NAN by its low eight bits may be named one; R177: so may the rounding of the average. -/
theorem test_numerics_within_rules : (
    leaves (.fAbs 0 1) (naming .fAbs 0xBF80000000 0 ⟨0xC000000000, false, false, true, false, false, false⟩
      (two 0xBF80000000 0)) [(0, 0x4000000000)] none 0x00000410 0 &&
    leaves (.fRsqrts 0 1) (naming .fRsqrts 0xBF80000000 0 ⟨0x3F80000000, false, false, false, false, false, false⟩
      (two 0xBF80000000 0)) [(0, 0x3F80000000)] none 0x00000400 0 &&
    leaves (.fPass 0 1) (naming .fPass 0x7F80000001 0 ⟨0, false, false, false, false, true, false⟩
      (mode 0x10000 (two 0x7F80000001 0))) [(0, 0xFFFFFFFF00)] none 0x00000420 0x20 &&
    leaves (.rAvg 0 1 2) (naming .rAvg 0x300 0x400 ⟨0x300, false, false, false, false, false, false⟩
      (two 0x300 0x400)) [(0, 0x300)] none 0 0) = true := by decide +kernel

/-- R599, U32: a CALL among the last three instructions of a loop is returned from by RTS (LR), not by RTS. -/
theorem test_call_at_loop_end :
    gives (.callAbs .tru 0x020200 false none) (looping 0x020102 .eq 0 2) (fun t =>
      refuses (.rts .tru false none) t .plainReturnIntoLoop && refuses (.rti .tru false none) t .plainReturnIntoLoop &&
      gives (.rtsLr .tru false none) t (fun u => u.pc == 0x020101)) = true := by decide +kernel

/-- R597, R449: CURLCNTR is not loaded at e - 2 of an outer counter-based loop; R39, R40: outside a short loop's own
instructions, as in a routine entered from it, CURLCNTR and LCNTR read the counter stack; R146: a count with a termination
other than LCE. -/
theorem test_counters : (
    refuses (.ldDmAbs .curlcntr 0x21000) (nested 3 0x020102) .counterFromMemoryAtTest &&
    (let s := { looping 0x020100 .lce 1 3 with pc := 0x020300 }
     low32 (readUreg s .curlcntr) == 3 && low32 (readUreg s .lcntr) == s.lcs.get 1) &&
    gives (.doCountUreg (.r 1) ⟨0x020103, .eq⟩) start (fun t => match loopTop t with
      | none => false
      | some l => l.e == 0x020103 && l.term == .eq && l.kind == 0)) = true := by decide +kernel

/-! Witnesses: for every statement with hypotheses, a state and operands that meet them together; for a statement of
several clauses, one for each clause. -/

/-- The operation answers, and its answer meets `p`. -/
def answers {α : Type} (r : Res α) (p : α → Bool) : Bool :=
  match r with
  | .ok a => p a
  | .error _ => false

/-- Deepest loop nesting, a full PC stack but one, a delayed branch behind. -/
def deep : State := { start with lsp := 6, pcstkp := 29 }

/-- 1.0 in F1 and -2.0 in F2. -/
def floats : State := two 0x3F80000000 0xC000000000

/-- Every state of the computation witnesses is ready to run and takes the reference Numerics, whatever its operands. -/
theorem witness_operands_ready (v w : W40) : flowReady (two v w) = true ∧ (two v w).cfg.numerics = [] := ⟨rfl, rfl⟩

/-- Not the default: no boot and the external vector base. -/
def unbooted : Params := { Config.params with bootMode := .noBoot }

theorem witness_ResetLeavesStatedValues :
    Config.params.bootMode = .eprom ∧ unbooted.bootMode = .noBoot ∧ unbooted.iivt = false ∧
      { unbooted with bootMode := .link }.bootMode = .link := by decide

/-- The boundary passes and the next step fetches at the pc. -/
def atBoundary (s₀ : State) : Bool :=
  (entryNow (envStep s₀)).isNone && (latchArithmetic (holdRequest (envStep s₀))).idle.isNone &&
    !runIsOver (latchArithmetic (holdRequest (envStep s₀)))

/-- The boundary passes and the next step fetches `i` at the pc. -/
def fetchable (s₀ : State) (i : Instr) : Bool :=
  let s := latchArithmetic (holdRequest (envStep s₀))
  atBoundary s₀ && !s.dirty.contains s.pc.toNat && s.mem.readBytes (wordKey s.pc.toNat) 6 == some (encode i).toNat &&
    decodeTableWord 48 (encode i).toNat == some i && (s.cfg.decodes.lookup (encode i)).isNone && i.wf

/-- The step stops with this fault. -/
def stepFaults (s : State) (f : Fault) : Bool :=
  match step s with
  | .fault g => g == f
  | .next _ => false
  | .refused _ => false

/-- The step stops with this refusal. -/
def stepRefuses (s : State) (r : Refusal) : Bool :=
  match step s with
  | .refused q => q == r
  | .next _ => false
  | .fault _ => false

/-- A word that runs, one that refuses, one that faults, each placed where the first step fetches; an external fetch;
words named by the parameter Decode; every reason for which the fetch stops. -/
theorem witness_StepRunsDecodedInstruction :
    let runs := fun (i : Instr) => State.reset.withFetchWord 48 (encode i).toNat
    let out := (State.resetWith unbooted).withFetchWord 48 (encode .nop).toNat
    let named := fun (d : Option Instr) =>
      { runs .nop with cfg := { (runs .nop).cfg with decodes := [(encode .nop, d)] } }
    fetchable (runs (.rInc 1 2)) (.rInc 1 2) = true ∧ regionOf Config.params 0x020004 = .internal 0 .w48 ∧
      gives (.rInc 1 2) (runs (.rInc 1 2)) (fun _ => true) = true ∧
      fetchable (runs (.popSts .none)) (.popSts .none) = true ∧
      stepRefuses (runs (.popSts .none)) .emptyStackPop = true ∧
      fetchable (runs .idle16) .idle16 = true ∧ stepFaults (runs .idle16) .illegalInstruction = true ∧
      fetchable out .nop = true ∧ out.pc = 0x400004 ∧ regionOf unbooted 0x400004 = .external .w48 ∧
      -- two words that Decode may give a meaning of its own or none
      stepGives (named (some (.compute .tru .clrMrb))) (fun t => t.pc == 0x020005) = true ∧
      stepFaults (named none) .illegalInstruction = true ∧
      -- a reserved bit set, written since boot, unmapped, a data word, nothing there
      stepFaults (State.reset.withFetchWord 48 0x1AF) .illegalInstruction = true ∧
      atBoundary (runs .nop) = true ∧
      stepRefuses { runs .nop with dirty := [0x020004] } .selfModifiedCode = true ∧
      stepFaults { runs .nop with pc := 0x020800 } .unmapped = true ∧
      stepFaults { runs .nop with pc := 0x021000 } .notInstructionWord = true ∧
      stepFaults { runs .nop with pc := 0x020005 } .unwrittenMemory = true := by decide +kernel

/-- The last PC stack height below the almost-full mark; an interrupt with and one without a status push. -/
theorem witness_StepEntersInterrupt :
    entryNow (envStep { requested with pcstkp := 27 }) = some 7 ∧ pushesStatus 7 = true ∧
      requested.sts.length < requested.cfg.stsDepth ∧
      entryNow (envStep { requested with irptl := 0x1000000, imask := 0x1000000 }) = some 24 ∧
      pushesStatus 24 = false := by decide +kernel

/-- An arithmetic request from each half of a sticky pair, one withheld while its routine is in service; a plain and a
nested entry. -/
theorem witness_EnteredInterruptIsValid :
    (latchArithmetic { start with stky := 0x4 }).irptl = 0x01000000 ∧
      (latchArithmetic { start with stky := 0x80 }).irptl = 0x02000000 ∧
      (latchArithmetic { start with stky := 0x121 }).irptl = 0x0C000000 ∧
      (latchArithmetic { start with stky := 0x121, imaskp := 0x08000000 }).irptl = 0x04000000 ∧
      start.latent = [] ∧ entryNow requested = some 7 ∧
      entryNow { requested with irptl := 0x40, imask := 0x1C0, imaskp := 0x80, mode1 := 0x1800 } = some 6 := by
  decide +kernel

/-- `b` is a request as the converse of EnteredInterruptIsValid demands, at a boundary that allows an entry. -/
def isRequested (s : State) (b : Nat) : Bool :=
  bitOf s.irptl b && bitOf s.imask b && bitOf s.mode1 12 && s.dbr.isNone && s.tail.isNone && !s.justEntered &&
  s.latent.isEmpty && decide (s.cfg.irqDelayMax ≤ s.irqHeld) &&
  (List.range b).all (fun k => k == 1 || !(bitOf s.irptl k && bitOf s.imask k)) &&
  (List.range 32).all fun k => !bitOf s.imaskp k || (decide (b < k) && bitOf s.mode1 11)

/-- A plain request, the lowest priority, and a nested one. -/
theorem witness_EnteredInterruptIsValid_converse :
    isRequested requested 7 = true ∧
      isRequested { requested with irptl := 0x80000000, imask := 0x80000000 } 31 = true ∧
      isRequested { requested with irptl := 0x40, imask := 0x1C0, imaskp := 0x80, mode1 := 0x1800 } 6 = true := by
  decide +kernel

/-- Waiting with the timer off, counting, and at zero. -/
theorem witness_IdleStepWaits :
    let waits := fun (s : State) => entryNow (envStep s) = none ∧ s.idle = some 0x020101
    waits { start with idle := some 0x020101 } ∧ waits { start with idle := some 0x020101, mode2 := 0x20, tcount := 1 } ∧
      waits { start with idle := some 0x020101, mode2 := 0x20 } ∧
      bitOf (effMode2 { start with mode2 := 0x20 }) 5 = true ∧ bitOf (effMode2 start) 5 = false := by decide +kernel

/-- Straight-line code, the deepest loop nesting, both slots of a delayed branch. -/
theorem witness_SequencerAnswers :
    flowReady start = true ∧ flowReady deep = true ∧ start.lsp.val = 0 ∧ start.tail = none ∧ start.dbr = none ∧
      { start with dbr := some ⟨5, true⟩ }.dbr = some ⟨5, true⟩ ∧
      { start with dbr := some ⟨5, false⟩ }.dbr = some ⟨5, false⟩ ∧
      -- the end of a loop that ends where the one around it does, or too near to it
      loopTop (nested 3 0x020100) = some ⟨0x020100, .lce, 3, 2, 0⟩ ∧ (levelAt (nested 3 0x020100) 0).e = 0x020100 ∧
      (nested 3 0x020100).lsp.val = 2 ∧ (nested 3 0x020100).pc = 0x020100 ∧
      (levelAt (nested 0 0x020101) 0).kind = 0 ∧ (levelAt (nested 0 0x020101) 0).e = 0x020101 ∧
      flowReady (nested 0 0x020102) = true := by decide +kernel

/-- At e - 2 with counts 1 and 2, at e, and before e - 2. -/
theorem witness_CountedLoopFlow :
    let at' := fun (e : A24) (n : W32) =>
      let s := looping e .lce 3 n
      loopTop s = some ⟨e, .lce, 3, n, 0⟩ ∧ flowReady s = true ∧ s.tail = none ∧ s.dbr = none
    at' 0x020102 1 ∧ at' 0x020102 2 ∧ at' 0x020100 2 ∧ at' 0x020103 2 ∧ start.pc + 2 = 0x020102 := by decide

/-- At the last instruction of a loop of the given kind, length 1 or 2, and count. -/
def shortLoop (kind : Nat) (len : Fin 4) (count : W32) : State :=
  { looping 0x020100 (if kind = 0 then .eq else .lce) kind count with
    lens := start.lens.set 0 len, pcs := start.pcs.set 0 (if len = 1 then 0x020100 else 0x0200FF) }

/-- The innermost loop is `l` and the sequencer is ready. -/
def atTest (s : State) (l : Level) : Bool :=
  loopTop s == some l && flowReady s && s.tail.isNone && s.dbr.isNone

/-- A loop UNTIL EQ at its test with EQ false and true: at e - 2, its length taken from the PC stack and from its DO
UNTIL; at e with lengths 1 and 2. Short counter-based loops at e with every count the clauses tell apart. A short loop
running out with passes left and with none. -/
theorem witness_ConditionAndShortLoopFlow :
    let s := looping 0x020102 .eq 0 0
    atTest s ⟨0x020102, .eq, 0, 0, 0⟩ = true ∧ pcTop s = some 0x0200F0 ∧ 3 ≤ ((0x020102 : A24) - 0x0200F0).toNat + 1 ∧
      atTest { s with lens := start.lens.set 0 3 } ⟨0x020102, .eq, 0, 0, 3⟩ = true ∧ s.pc + 2 = 0x020102 ∧
      terminates s 0 .eq = false ∧ terminates (flagged 1 s) 0 .eq = true ∧
      atTest (shortLoop 0 1 0) ⟨0x020100, .eq, 0, 0, 1⟩ = true ∧ atTest (shortLoop 0 2 0) ⟨0x020100, .eq, 0, 0, 2⟩ = true ∧
      terminates (shortLoop 0 1 0) 0 .eq = false ∧ terminates (flagged 1 (shortLoop 0 2 0)) 0 .eq = true ∧
      [1, 2, 3, 4].all (fun n => atTest (shortLoop 1 1 n) ⟨0x020100, .lce, 1, n, 1⟩ &&
        atTest (shortLoop 2 2 n) ⟨0x020100, .lce, 2, n, 2⟩) = true ∧
      (shortLoop 1 1 3).pc = 0x020100 ∧
      [0, 1].all (fun more =>
        let t := { start with tail := some ⟨0x020100, 0x0200FF, more, true⟩ }
        t.dbr.isNone && t.pc == 0x020100 && t.lsp == 0) = true := by decide +kernel

theorem witness_DecodeOfEncode :
    (Instr.mulRWithDual 15 14 13 3 2 1 0).wf = true ∧ (Instr.doCountImm 0xFFFF ⟨0xFFFFFF, .lce⟩).wf = true ∧
      (Instr.jumpRel .tru 0xFFFFE0 true (some .clrMrb)).wf = true := by decide

theorem witness_EncodeOfDecode : decodeTableWord 48 0x0000000000AF = some .nop := by decide +kernel

/-- A 32-bit word, a 48-bit word with 48 and with 40 bits, a short word, an off-chip word, and an off-chip word of 40
bits. -/
theorem witness_WordsReadAsStored :
    let stores := fun (sp : Space) (full : Bool) (a : Nat) => answers (writeWord start sp full a 0x123456789ABC) fun _ => true
    let wide40 : Params := { start.cfg with regions := [⟨0x410000, 0x41FFFF, .external .w40⟩] }
    stores .dm false 0x21000 = true ∧ stores .pm true 0x20000 = true ∧ stores .dm false 0x20000 = true ∧
      stores .pm false 0x40001 = true ∧ regionOf wide40 0x410000 = .external .w40 ∧
      stores .dm false 0xFFFFFFFF = true ∧ regionOf start.cfg 0x21000 = .internal 0 .w32 ∧
      regionOf start.cfg 0x20000 = .internal 0 .w48 ∧ regionOf start.cfg 0x40001 = .internalShort ∧
      regionOf start.cfg 0xFFFFFFFF = .external .w32 ∧
      answers (readWord (holding 0x21000 7 start) .pm true 0x21000) (fun _ => true) = true := by
  decide +kernel

/-- StepKeepsMemoryCanonical and StepKeepsStatusConsistent: a step that stores, from a state that meets all three. -/
theorem witness_StepKeepsInvariants :
    let s := placed 0x20100 (.stDmAbs 0x21000 (.r 1)) (two 0x1234567800 0)
    memoryCanonical s = true ∧ interruptsConsistent s = true ∧ statusStored s = true ∧
      stepGives s (fun t => decide (t.mem ≠ s.mem)) = true := by decide +kernel

/-- UnselectedBankUntouched, OnlyStoresWriteMemory, ControlBitsChangeOnlyExplicitly and ComputationFrame: in the alternate lower half with register 0 unselected, not storing, and not
restoring. -/
theorem witness_WholeMachineRules :
    gives (.rInc 1 2) (mode 0x400 start) (fun _ => true) = true ∧ (∀ n : Reg, regIdx (mode 0x400 start) n ≠ 0) ∧
      canStore (.rInc 1 2) = false ∧ destOf (.rInc 1 2) ≠ some (.sys .imask) ∧ restoresStatus (.rInc 1 2) = false ∧
      gives (.rInc 1 2) start (fun _ => true) = true := by decide +kernel

/-- Effects with three registers, with an MR register and one register, and with none. -/
theorem witness_EffectLands :
    answers (computeEffect (.mulRWithDual 0 1 2 0 0 0 0) floats) (fun e => e.regs.map Prod.fst == [0, 1, 2]) = true ∧
      answers (computeEffect (.macAddMrfWithAdd 1 0 0 0 0) floats)
        (fun e => e.regs.map Prod.fst == [1] && e.mr.isSome) = true ∧
      answers (computeEffect (.rComp 1 2) floats) (fun e => e.regs.isEmpty && e.mr.isNone) = true := by decide +kernel

theorem witness_ComputationsComplete :
    (Compute.rInc 1 2).wf = true ∧ flowReady start = true ∧ mayTest .eq start = true ∧ condition start .eq = false ∧
      condition (flagged 1 start) .eq = true := by decide

/-- FixedSumResults, FixedLogicResults, FixedOperationResults, FixedProductResults, SaturateRoundResults and
MrTransferResults: ready in straight-line code and in the deepest nesting; the corner operands. -/
theorem witness_FixedPointResults :
    flowReady start = true ∧ flowReady deep = true ∧ start.cfg.numerics = [] ∧ regFx (two 0 0x8000000000) 2 = 0x80000000 ∧
      (let s := two 0x100 0xFFFFFFFE00
       regFx s 2 ≠ 0x80000000 ∧ |(regFx s 1).toInt| < |(regFx s 2).toInt| ∧ |(regFx s 1).toInt| ≤ |(regFx s 1).toInt|) := by
  decide

theorem witness_NanOperandResults :
    flowReady start = true ∧ start.cfg.numerics = [] ∧ isNan (regF (two 0x7F80000001 0) 1) = true ∧ isNan (regF (two 0xFFFFFFFFFF 0) 1) = true := by
  decide

theorem witness_FiniteFloatSums :
    flowReady floats = true ∧ floats.cfg.numerics = [] ∧ classify (regF floats 1) = .num ⟨false, 2 ^ 31, -31⟩ ∧
      classify (regF floats 2) = .num ⟨true, 2 ^ 31, -30⟩ := by decide +kernel

/-- An Infinity beside a number, beside its like and beside its opposite. -/
theorem witness_InfiniteFloatSums :
    classify (regF (two 0x7F80000000 0) 1) = .inf false ∧ classify (regF (two 0x7F80000000 0) 2) = .num ⟨false, 0, 0⟩ ∧
      classify (regF (two 0 0x7F80000000) 2) = .inf false ∧ classify (regF (two 0 0xFF80000000) 2) = .inf true := by
  decide +kernel

/-- 1.0 and -2.0 in both orders and equal, so that every comparison of the clauses holds somewhere. -/
theorem witness_FloatSelectResults :
    isNan (regF floats 1) = false ∧ isNan (regF floats 2) = false ∧
      (ordered (classify (regF floats 2))).rat < (ordered (classify (regF floats 1))).rat ∧
      |(ordered (classify (regF floats 1))).rat| < |(ordered (classify (regF floats 2))).rat| := by
  have h1 : ordered (classify (regF floats 1)) = ⟨false, 2 ^ 31, -31⟩ := by decide +kernel
  have h2 : ordered (classify (regF floats 2)) = ⟨true, 2 ^ 31, -30⟩ := by decide +kernel
  refine ⟨by decide +kernel, by decide +kernel, ?_, ?_⟩
  · rw [h1, h2]
    norm_num [Fin2.rat]
  · rw [h1, h2]
    norm_num [Fin2.rat]

/-- RoundScaleFloatResults, FixResults and MantissaExponentResults: a number, an Infinity and a NAN for RND, and for SCALB, LOGB, MANT and FIX; a zero; FIX under both roundings. -/
theorem witness_FloatConversionResults :
    classify (flushDenormal (reg floats 1)) = .num ⟨false, 2 ^ 31, -31⟩ ∧
      classify (flushDenormal (reg (two 0xFF80000000 0) 1)) = .inf true ∧
      isNan (flushDenormal (reg (two 0x7FC0000000 0) 1)) = true ∧
      classify (regF (two 0xFF80000000 0) 1) = .inf true ∧ classify (regF start 1) = .num ⟨false, 0, 0⟩ ∧
      (0 : Int) = (regFx (two 0x3F80000000 0) 2).toInt ∧ trunc (mode 0x8000 start) = true ∧ trunc start = false := by
  decide +kernel

/-- Operands of the seeds: zero, both Infinities, exponents 1, 252, 253 and 254, a negative and a positive number. -/
theorem witness_SeedResults :
    let a := fun (v : W40) => regF (two v 0) 1
    isZero (a 0x8000000000) = true ∧ classify (a 0x7F80000000) = .inf false ∧ classify (a 0xFF80000000) = .inf true ∧
      fExp (a 0x0080000000) = 1 ∧ fExp (a 0x7E00000000) = 252 ∧ fExp (a 0x7E80000000) = 253 ∧
      classify (a 0x0080000000) = .num ⟨false, 2 ^ 31, -157⟩ ∧ classify (a 0x7E80000000) = .num ⟨false, 2 ^ 31, 95⟩ ∧
      classify (a 0xBF80000000) = .num ⟨true, 2 ^ 31, -31⟩ := by decide +kernel

/-- Values at both ends of the range of exponents of a delivered number, with 24 and 32 bits. -/
theorem witness_RoundingAndDeliveryAreCorrect :
    (roundTo false 32 (2 ^ 31) (-157)).2 + 31 = -126 ∧ (roundTo false 32 (2 ^ 31) (-158)).2 + 31 = -127 ∧
      (roundTo false 24 (2 ^ 31) 96).2 + 23 = 127 ∧ (roundTo true 24 (2 ^ 31) 97).2 + 23 = 128 := by decide +kernel

/-- Infinity times zero, times a number and times Infinity, a NAN, two numbers. -/
theorem witness_FloatProductResult :
    let a := fun (v : W40) => classify (regF (two v 0) 1)
    a 0x7F80000000 = .inf false ∧ a 0 = .num ⟨false, 0, 0⟩ ∧ a 0x3F80000000 = .num ⟨false, 2 ^ 31, -31⟩ ∧
      a 0x7FC0000000 = .nan := by decide +kernel

/-- ShiftResults and BitOperationResults: amounts at the ends of their ranges, from a register and from `<data8>`. -/
theorem witness_ShiftAndBitResults :
    let d := fun (v : W40) => (regFx (two 0 v) 2).toInt
    d 0 = 0 ∧ d 0x1F00 = 31 ∧ d 0x2000 = 32 ∧ d 0xFFFFFFFF00 = -1 ∧ d 0x8000000000 = -2 ^ 31 ∧
      (0x80 : BitVec 8).toInt = -128 ∧ (0x7F : BitVec 8).toInt = 127 := by decide

/-- Ry of E1 names bit 16 and length 8. -/
theorem witness_FieldResults :
    (regFx (two 0xFF00 0x21000) 2).toNat % 2 ^ 12 = (8 : BitVec 6).toNat * 2 ^ 6 + (16 : BitVec 6).toNat := by decide

/-- Short floats of each kind and words in each range of FPACK, at its ends. -/
theorem witness_ExponentCountShortFloatResults :
    bitOf (effAstat (flagged 2 start)) 1 = true ∧ bitOf (effAstat start) 1 = false ∧ start.cfg.numerics = [] ∧
      (let g := fun (h : W32) => (h.toNat / 2 ^ 11 % 2 ^ 4, h.toNat % 2 ^ 11)
       g 0x8000 = (0, 0) ∧ g 0x0001 = (0, 1) ∧ g 0x07FF = (0, 2047) ∧ g 0x0800 = (1, 0) ∧ g 0xFFFF = (15, 2047)) ∧
      (let e := fun (v : W32) => v.toNat / 2 ^ 23 % 2 ^ 8
       e 0x367FFFFF = 108 ∧ e 0x36800000 = 109 ∧ e 0x37000000 = 110 ∧ e 0x3C000000 = 120 ∧ e 0x3C800000 = 121 ∧
         e 0x43FFFFFF = 135 ∧ e 0x44000000 = 136) := by decide +kernel

/-- FixedMultifunctionResults and FloatMultifunctionResults: all parts of a floating-point multifunction instruction answer. -/
theorem witness_MultifunctionResults :
    (0 : Reg) ≠ 1 ∧ answers (computeEffect (.fMul 0 (quadXm 1) (quadYm 0)) floats) (fun _ => true) = true ∧
      answers (computeEffect (.fFixBy 1 (quadXa 0) (quadYa 0)) floats) (fun _ => true) = true ∧
      answers (computeEffect (.fAdd 1 8 12) floats) (fun _ => true) = true ∧
      answers (computeEffect (.fSub 2 8 12) floats) (fun _ => true) = true ∧ floats.cfg.numerics = [] ∧
      refuses (.fMulWithDual 0 1 1 0 0 0 0) floats .sameDualDestination = true ∧
      classify (regF floats 1) = .num ⟨false, 2 ^ 31, -31⟩ ∧ quadXa 0 = 8 ∧ quadYa 3 = 15 := by decide +kernel

/-- A move with a computation beside it, into a register of each kind of restriction, under a true and a false IF. -/
theorem witness_RegisterMoveResults :
    flowReady start = true ∧ takesWrite start (.dag1 .i 0) (bus32 5) false = true ∧
      takesWrite called .pcstk (bus32 5) false = true ∧ takesWrite start (.sys .irptl) (bus32 0x80) false = true ∧
      givesRead start .pcstk = true ∧ mayTest .eq start = true ∧ condition start .eq = false ∧
      condition start .ne = true ∧ standsHere start .pcstk false = true ∧
      answers (slotEffect (some (.rInc 1 2)) start) (fun _ => true) = true := by decide +kernel

/-- I1 and I9 point at the first 32-bit data word, which holds a value. -/
def ready : State :=
  { pointing 0x21000 1 (holding 0x21000 7 start) with dag2 := { start.dag2 with i := start.dag2.i.set 1 0x21000 } }

/-- Loads by every address form, under a true and a false IF. -/
theorem witness_LoadResults :
    let got := fun (r : Res W48) => answers r (· == bus32 7)
    got (readWord ready .dm false 0x21000) = true ∧ got (readWord ready .pm false 0x21000) = true ∧
      got (readWord ready .dm false (dag1Address ready 1).toNat) = true ∧
      got (readWord ready .pm false (dag2Address ready 1).toNat) = true ∧
      got (readWord ready .dm false (dag1Reg ready .i 1 + dag1Reg ready .m 0).toNat) = true ∧
      got (readWord ready .pm false (dag2Reg ready .i 1 + dag2Reg ready .m 0).toNat) = true ∧
      takesWrite ready (.r 0) (bus32 7) true = true ∧ (Ureg.r 0).isIndex1 1 = false ∧ (Ureg.r 0).isIndex2 1 = false ∧
      flowReady ready = true ∧ mayTest .tru ready = true ∧ condition ready .tru = true ∧ condition ready .eq = false ∧
      answers (slotEffect none ready) (fun _ => true) = true ∧
      -- an unmapped address and an internal word with nothing in it; CURLCNTR at e - 2 of a counter-based loop
      regionOf ready.cfg 0x20800 = .unmapped ∧ regionOf ready.cfg 0x20C00 = .internal 0 .w32 ∧
      (∀ j < 6, ready.mem.read (wordKey 0x20C00 + j) = none) ∧
      (let s := looping 0x020102 .lce 3 2
       loopTop s = some ⟨0x020102, .lce, 3, 2, 0⟩ ∧ s.lsp.val = 1 ∧ s.pc + 2 = 0x020102 ∧ inSlot s = false) ∧
      (let s := nested 3 0x020102
       (levelAt s 0).kind = 3 ∧ s.pc + 2 = (levelAt s 0).e ∧ s.lsp.val = 2 ∧ inSlot s = false) := by decide +kernel

/-- Stores by every address form, and an unmapped address. -/
theorem witness_StoreResults :
    flowReady ready = true ∧ mayTest .tru ready = true ∧ condition ready .tru = true ∧ condition ready .eq = false ∧
      answers (slotEffect none ready) (fun _ => true) = true ∧
      givesRead ready (.r 0) = true ∧ regionOf ready.cfg (dag1Address ready 1).toNat ≠ .unmapped ∧
      regionOf ready.cfg (dag2Address ready 1).toNat ≠ .unmapped ∧
      regionOf ready.cfg (dag1Reg ready .i 1 + dag1Reg ready .m 0).toNat ≠ .unmapped ∧
      regionOf ready.cfg (dag2Reg ready .i 1 + dag2Reg ready .m 0).toNat ≠ .unmapped ∧
      regionOf ready.cfg 0xFFFFFFFF ≠ .unmapped ∧ regionOf ready.cfg 0x20800 = .unmapped := by decide +kernel

/-- Two words of internal memory, both readable and both open to a store; one word for both sides, and the two halves
of one word, which are two; one off-chip word for two loads and for two stores. -/
theorem witness_DualMoveResults :
    let s := { holding 0x30000 8 ready with dag2 := { start.dag2 with i := start.dag2.i.set 1 0x30000 } }
    let one := fun (a b : Nat) (stores : Bool) => oneWord s.cfg a b stores
    one (dag1Address s 1).toNat (dag2Address s 1).toNat true = false ∧
      one (dag1Address ready 1).toNat (dag2Address ready 1).toNat false = true ∧
      one 0x21000 0x42000 false = true ∧ one 0x42000 0x42001 true = false ∧ one 0x42001 0x42001 false = true ∧
      one 0x500000 0x500000 false = false ∧ one 0x500000 0x500000 true = true ∧
      regionOf s.cfg (dag1Address s 1).toNat ≠ .unmapped ∧ regionOf s.cfg (dag2Address s 1).toNat ≠ .unmapped ∧
      flowReady s = true ∧ mayTest .tru s = true ∧
      answers (readWord s .dm false (dag1Address s 1).toNat) (· == bus32 7) = true ∧
      answers (readWord s .pm false (dag2Address s 1).toNat) (· == bus32 8) = true ∧
      answers (slotEffect none s) (fun _ => true) = true ∧ condition s .tru = true ∧ condition s .eq = false := by
  decide +kernel

/-- A write of every kind of universal register answers. -/
theorem witness_RegisterWriteLands :
    let ok := fun (s : State) (u : Ureg) => answers (putUreg s s u (bus32 0x80) .register) fun _ => true
    (ok start (.r 15) && ok start (.dag1 .b 7) && ok start (.dag2 .l 0) && ok start .px && ok start .px1 && ok start .px2 &&
      ok called .pcstk && ok { called with endCalls := .replicate 30 true } .pcstk && ok start .pcstkp && ok start .laddr && ok (looping 0x020110 .lce 3 2) .curlcntr &&
      ok (looping 0x020110 .eq 0 2) .curlcntr && ok start .lcntr && ok start .tcount && ok start .tperiod &&
      [Sreg.mode1, .mode2, .irptl, .imask, .imaskp, .astat, .stky, .ustat1, .ustat2].all fun r => ok start (.sys r)) =
      true ∧ countsHere (looping 0x020110 .lce 3 2) ⟨0x020110, .lce, 3, 2, 0⟩ = false ∧
      readPcstkp start ≠ 31 ∧ readPcstkp { start with pcstkp := 31 } = 31 ∧ ok { start with pcstkp := 31 } .pcstkp = true := by
  decide +kernel

theorem witness_RegisterReadsFollowMachine :
    sequential start = true ∧ pcTop called = some 0x020101 ∧ inShortBody called = false ∧ start.latentPcstkp = none ∧
      start.lsp.val = 0 ∧ inShortBody start = false ∧
      loopTop (looping 0x020110 .lce 3 2) = some ⟨0x020110, .lce, 3, 2, 0⟩ ∧
      inShortBody (looping 0x020110 .lce 3 2) = false ∧
      { start with latent := [(.imaskp, 5)] }.latent.lookup Sreg.imaskp = some 5 ∧ (looping 0x020110 .lce 3 2).lsp.val = 1 ∧
      { start with latentPcstkp := some 3 }.latentPcstkp = some 3 := by decide

/-- A circular buffer of four words at 0x21000: a step inside it and one that wraps, from its last word, in DAG1 and
DAG2, through I7 and I15. -/
theorem witness_AddressGenerationResults :
    let d := fun (m : W32) => { start with
      dag1 := { i := start.dag1.i.set 7 0x21003, m := start.dag1.m.set 0 m, l := start.dag1.l.set 7 4
                b := start.dag1.b.set 7 0x21000 }
      dag2 := { i := start.dag2.i.set 7 0x21003, m := start.dag2.m.set 0 (m.setWidth 24), l := start.dag2.l.set 7 4
                b := start.dag2.b.set 7 0x21000 } }
    (dag1Reg (d 1) .l 7).toNat ≠ 0 ∧ |(dag1Reg (d 4) .m 0).toInt| ≤ (dag1Reg (d 4) .l 7).toNat ∧
      (dag1Reg (d 1) .b 7).toNat ≤ (dag1Reg (d 1) .i 7).toNat ∧
      (dag1Reg (d 1) .i 7).toNat < (dag1Reg (d 1) .b 7).toNat + (dag1Reg (d 1) .l 7).toNat ∧
      (dag1Modified (d (-1)) 7 0).2 = false ∧ (dag1Modified (d 1) 7 0) = (0x21000, true) ∧
      (dag2Modified (d (-1)) 7 0).2 = false ∧ (dag2Modified (d 1) 7 0) = (0x21000, true) ∧
      dag1Reg start .l 7 = 0 := by decide +kernel

/-- A jump out of straight-line code and out of a loop, in the service of interrupt 31; a loop abort. -/
theorem witness_JumpResults :
    let s := looping 0x020110 .lce 3 2
    flowReady s = true ∧ branchFree s = true ∧ mayTest .ne s = true ∧ condition s .ne = true ∧ condition s .eq = false ∧
      intoLoopEnd s 0x020200 = false ∧ readImaskp s = 0 ∧ bitOf (readImaskp { s with imaskp := 0x80000000 }) 31 = true ∧
      popReady s = true ∧ answers (slotEffect none s) (fun _ => true) = true ∧
      answers (sequenced s) (fun o => decide (0 < o.lsp.val) && popReady o && answers (popLoops o) fun p =>
        answers (abortTarget p 0x020200) fun _ => true) = true := by decide +kernel

/-- A call from straight-line code, and a nondelayed one that ends a loop. -/
theorem witness_CallResults :
    flowReady start = true ∧ flowReady (looping 0x020100 .lce 3 2) = true ∧ mayTest .ne start = true ∧
      condition start .ne = true ∧ condition start .eq = false ∧
      answers (slotEffect none start) (fun _ => true) = true ∧ callFree start true = true ∧ callFree start false = true ∧ start.latentPcstkp = none ∧
      callFree (looping 0x020100 .lce 3 2) false = true ∧ intoLoopEnd start 0x020200 = false := by decide

/-- A return from a subroutine, from a routine without a status pair, from one with, and from a CALL at a loop's end. -/
theorem witness_ReturnResults :
    let s := { called with imaskp := 0x80, sts := [(0x55, 0x800)] }
    flowReady called = true ∧ mayTest .ne called = true ∧ condition called .ne = true ∧ condition called .eq = false ∧
      answers (slotEffect none called) (fun _ => true) = true ∧ branchFree called = true ∧ popReady called = true ∧ pcTop called = some 0x020101 ∧
      needsLr called = false ∧ readImaskp called = 0 ∧ bitOf (readImaskp s) 7 = true ∧
      (∀ k < 7, bitOf (readImaskp s) k = false) ∧ pushesStatus 7 = true ∧ pushesStatus 24 = false ∧
      s.sts = [(0x55, 0x800)] ∧
      (let t := { looping 0x020110 .lce 3 2 with pc := 0x020050, pcstkp := 2, pcs := (start.pcs.set 0 0x0200F0).set 1 0x020110 }
       needsLr t = true ∧ popReady t = true ∧ branchFree t = true) ∧
      needsLr { called with endCalls := .replicate 30 true } = true ∧
      -- the PC stack overflowed and empty
      (let o := { start with pcstkp := 31 }
       flowReady o = true ∧ branchFree o = true ∧ mayTest .ne o = true ∧ condition o .ne = true ∧ o.latentPcstkp = none ∧
         readImaskp o = 0 ∧ flowReady start = true ∧ branchFree start = true ∧ start.pcstkp = 0) := by decide

/-- A DO from straight-line code, with the loop stacks empty, at five levels and full, the outer loops ending further
on; PC stack heights at the marks. -/
theorem witness_LoopStartResults :
    let far := fun (s : State) => { s with las := .replicate 6 (levelWord 0x020120 .lce 3) }
    let five := far { start with lsp := 5, pcstkp := 5 }
    flowReady start = true ∧ flowReady deep = true ∧ start.latentPcstkp = none ∧ branchFree start = true ∧
      start.lsp.val < 6 ∧ endsApart start 0x020107 = true ∧ branchFree five = true ∧ five.lsp.val < 6 ∧
      endsApart five 0x020107 = true ∧ flowReady five = true ∧ (far deep).lsp.val = 6 ∧ flowReady (far deep) = true ∧
      branchFree (far deep) = true ∧ endsApart (far deep) 0x020107 = true ∧ givesRead start (.r 1) = true := by decide

/-- At each of the two locations after a delayed branch; on the ADSP-21061 too. -/
theorem witness_DelaySlotRestrictions :
    let s := { start with slots := [0x020100] }
    let t := { start with slots := [0x0200FF, 0x020100] }
    s.slots.contains s.pc = true ∧ t.slots.contains t.pc = true ∧ flowReady s = true ∧ givesRead s (.r 1) = true ∧
      { s with cfg := Config.paramsFor .adsp21061 }.cfg.part = .adsp21061 := by decide

theorem witness_ConditionsReadTable :
    start.latent = [] ∧ inShortBody start = false ∧ bitOf start.mode1 17 = false ∧ bitOf start.mode1 18 = false := by
  decide

/-- IRPTL with no reserved bit in the result. -/
theorem witness_BitInstructionResults :
    flowReady start = true ∧ (readSreg start .irptl ||| 0x10000000) &&& 0x00000207 = 0 := by decide +kernel

/-- Loop stacks empty, open and full, status stack empty, open and full, PC stack empty and not. -/
theorem witness_StackInstructionResults :
    let s := looping 0x020110 .lce 3 2
    let p := { s with sts := [(1, 2)] }
    flowReady start = true ∧ inSlot start = false ∧ start.latentPcstkp = none ∧ flowReady deep = true ∧
      start.lsp.val < 6 ∧ atInnerEnd start = false ∧ deep.lsp.val = 6 ∧ inSlot deep = false ∧
      atInnerEnd deep = false ∧ 0 < s.lsp.val ∧ atInnerEnd s = false ∧ start.sts.length < start.cfg.stsDepth ∧
      start.cfg.stsDepth ≤ [(1, 2), (1, 2), (1, 2), ((1 : W32), (2 : W32))].length ∧
      start.pcstkp = 0 ∧ flowReady p = true ∧ inSlot p = false ∧ atInnerEnd p = false ∧ p.latentPcstkp = none ∧
      flowReady { start with pcstkp := 31 } = true ∧
      p.sts ≠ [] ∧ p.sts.length < p.cfg.stsDepth ∧ popReady p = true ∧ 0 < p.lsp.val ∧ p.lsp.val < 6 := by decide

theorem witness_IdleNopResults :
    flowReady start = true ∧ inSlot start = false ∧ start.cfg.part ≠ .adsp21061 ∧
      { start with cfg := Config.paramsFor .adsp21061 }.cfg.part = .adsp21061 := by decide

end Sys2Proof.Tests
end

-- Proofs of the statements of 00_scope.md.
section
/-! SUPPORT. What a step fetches and runs, and what it keeps of the interrupt and status registers. -/

namespace Sys2Proof.Machine

/-! Words whose bits keep apart from a mask. -/

theorem or_and_eq_zero {a b k : W32} (ha : a &&& k = 0) (hb : b &&& k = 0) : (a ||| b) &&& k = 0 := by
  rw [BitVec.and_or_distrib_right, ha, hb, BitVec.or_self]

theorem and_and_eq_zero {a k : W32} (b : W32) (ha : a &&& k = 0) : (a &&& b) &&& k = 0 := by
  rw [BitVec.and_assoc, BitVec.and_comm b k, ← BitVec.and_assoc, ha]
  exact BitVec.zero_and

theorem and_not_and_eq_zero (a k : W32) : (a &&& ~~~k) &&& k = 0 := by
  rw [BitVec.and_assoc, BitVec.and_comm (~~~k) k]
  simp

/-- Only bits of the mask `m` are 1 in `w`. -/
def within (m w : W32) : Prop := w &&& ~~~m = 0

theorem within_zero (m : W32) : within m 0 := BitVec.zero_and

theorem within.or {m n a b : W32} (ha : within m a) (hb : within n b) : within (m ||| n) (a ||| b) := by
  unfold within
  rw [BitVec.not_or]
  refine or_and_eq_zero ?_ ?_
  · rw [← BitVec.and_assoc]
    exact (congrArg (· &&& ~~~n) ha).trans BitVec.zero_and
  · rw [BitVec.and_comm (~~~m), ← BitVec.and_assoc]
    exact (congrArg (· &&& ~~~m) hb).trans BitVec.zero_and

/-- What stays within a mask keeps apart from every word the mask keeps apart from. -/
theorem within.and_eq_zero {m w k : W32} (hw : within m w) (hm : m &&& k = 0) : w &&& k = 0 := by
  have parts : w = (m &&& w) ||| (w &&& ~~~m) := by
    rw [BitVec.and_comm m, ← BitVec.and_or_distrib_left, BitVec.or_not_self]
    exact BitVec.and_allOnes.symm
  rw [parts]
  exact or_and_eq_zero (and_and_eq_zero w hm) ((congrArg (· &&& k) hw).trans BitVec.zero_and)

/-! What the flags of a computation can reach: the masks of Sys2Proof/Claims.lean. -/

theorem overflowSticky_within (aos : Bool) : within 0x00000004 (aluSticky false false aos false) := by
  unfold within
  cases aos <;> decide

theorem floatSticky_within (aus avs ais : Bool) : within 0x00000023 (aluSticky aus avs false ais) := by
  unfold within
  cases aus <;> cases avs <;> cases ais <;> decide

theorem fixedSum_sticky (s : State) (n : Reg) (a b : W32) (c : Bool) :
    within 0x00000004 (fixedSum s n a b c).flags.sticky := overflowSticky_within _

theorem fixedAverage_sticky (s : State) (n : Reg) (x y : W32) :
    within 0x00000004 (fixedAverage s n x y).flags.sticky := within_zero _

theorem floatOut_sticky (n : Reg) (o : FOut) : within 0x00000023 (floatOut n o).flags.sticky :=
  floatSticky_within _ _ _

theorem mrFlags_sticky (uns int : Bool) (a : W80) : within 0x00000140 (mrFlags uns int a).sticky := by
  simp only [mrFlags, mulOut, within]
  cases mrOverflow uns int a <;> cases mrUnderflow uns int a <;> decide

theorem mulToReg_sticky (n : Reg) (md : MulMod) (a : W80) : within 0x00000140 (mulToReg n md a).flags.sticky :=
  mrFlags_sticky _ _ _

theorem mulToMr_sticky (s : State) (back : Bool) (md : MulMod) (a : W80) :
    within 0x00000140 (mulToMr s back md a).flags.sticky := mrFlags_sticky _ _ _

theorem fMulOut_sticky (n : Reg) (o : FOut) : within 0x00000380 (fMulOut n o).flags.sticky := by
  simp only [fMulOut, Effect.toReg, mulOut, within]
  cases o.av <;> cases o.unf <;> cases o.ai <;> decide

theorem testBit_flags (x : W32) (b : Int) : (testBit x b).mask = shiftMask ∧ (testBit x b).sticky = 0 := by
  unfold testBit
  split <;> exact ⟨rfl, rfl⟩

theorem besideFixed_sticky {low high : Effect} (hl : within 0x00000140 low.flags.sticky)
    (hh : within 0x00000004 high.flags.sticky) : within 0x00000144 (low.beside high).flags.sticky := hl.or hh

theorem besideFloat_sticky {low high : Effect} (hl : within 0x00000380 low.flags.sticky)
    (hh : within 0x00000023 high.flags.sticky) : within 0x000003A3 (low.beside high).flags.sticky := hl.or hh

theorem dualFixed_flags {s : State} {a d : Reg} {x y : W32} {e : Effect} (h : dualFixed s a d x y = .ok e) :
    e.flags.mask = aluMask ∧ within 0x00000004 e.flags.sticky := by
  unfold dualFixed at h
  split at h
  · cases h
  · cases h
    exact ⟨rfl, overflowSticky_within _⟩

theorem dualFloat_flags {s : State} {a d x y : Reg} {e : Effect} (h : dualFloat s a d x y = .ok e) :
    e.flags.mask = aluMask ∧ within 0x00000023 e.flags.sticky := by
  unfold dualFloat at h
  split at h
  · cases h
  · cases h
    exact ⟨rfl, (floatSticky_within _ _ _).or (floatSticky_within _ _ _)⟩

/-- A computation writes exactly the ASTAT bits it owns. -/
theorem computeEffect_mask {c : Compute} {s : State} {e : Effect} (h : computeEffect c s = .ok e) :
    e.flags.mask = flagMaskOf c := by
  cases c
  case dualAddSub => exact (dualFixed_flags h).1
  case dualFAddSub => exact (dualFloat_flags h).1
  case mulRWithDual =>
    obtain ⟨d, hd, rfl⟩ := map_ok.1 h
    exact (congrArg (mulMask ||| ·) (dualFixed_flags hd).1).trans (BitVec.or_comm mulMask aluMask)
  case fMulWithDual =>
    obtain ⟨d, hd, rfl⟩ := map_ok.1 h
    exact (congrArg (mulMask ||| ·) (dualFloat_flags hd).1).trans (BitVec.or_comm mulMask aluMask)
  case btst | btstImm =>
    cases h
    exact (testBit_flags _ _).1
  case mulRWithAdd | mulRWithSub | mulRWithAvg | macAddMrfWithAdd | macAddMrfWithSub | macAddMrfWithAvg
      | macAddRMrfWithAdd | macAddRMrfWithSub | macAddRMrfWithAvg | macSubMrfWithAdd | macSubMrfWithSub
      | macSubMrfWithAvg | macSubRMrfWithAdd | macSubRMrfWithSub | macSubRMrfWithAvg | fMulWithFAdd | fMulWithFSub
      | fMulWithFloatBy | fMulWithFixBy | fMulWithFAvg | fMulWithFAbs | fMulWithFMax | fMulWithFMin =>
    cases h
    exact BitVec.or_comm mulMask aluMask
  all_goals
    cases h
    rfl

/-- A computation sets only the STKY bits it owns. -/
theorem computeEffect_sticky {c : Compute} {s : State} {e : Effect} (h : computeEffect c s = .ok e) :
    within (stickyMaskOf c) e.flags.sticky := by
  cases c
  case rAdd | rSub | rAddCi | rSubCi | rPlusCi | rPlusCiLess1 | rInc | rDec | rNeg =>
    cases h
    exact fixedSum_sticky _ _ _ _ _
  case rAbs =>
    cases h
    exact overflowSticky_within _
  case fAdd | fSub | fAbsAdd | fAbsSub | fAvg | fNeg | fAbs | fPass | fRnd | fScalb | fMant | fLogb | fFixBy | fFix
      | fFloatBy | fFloat | fRecips | fRsqrts | fCopysign | fMin | fMax | fClip =>
    cases h
    exact floatOut_sticky _ _
  case fComp =>
    cases h
    exact floatSticky_within _ _ _
  case mulR | mulMrf | mulMrb | macAddRMrf | macAddRMrb | macAddMrf | macAddMrb | macSubRMrf | macSubRMrb | macSubMrf
      | macSubMrb | satRMrf | satRMrb | satMrf | satMrb | rndRMrf | rndRMrb | rndMrf | rndMrb =>
    cases h
    exact mrFlags_sticky _ _ _
  case fMul =>
    cases h
    exact fMulOut_sticky _ _
  case btst | btstImm =>
    cases h
    exact (congrArg (within _) (testBit_flags _ _).2).mpr (within_zero _)
  case dualAddSub => exact (dualFixed_flags h).2
  case dualFAddSub => exact (dualFloat_flags h).2
  case mulRWithAdd | mulRWithSub | macAddRMrfWithAdd | macAddRMrfWithSub | macSubRMrfWithAdd | macSubRMrfWithSub =>
    cases h
    exact besideFixed_sticky (mulToReg_sticky _ _ _) (fixedSum_sticky _ _ _ _ _)
  case macAddMrfWithAdd | macAddMrfWithSub | macSubMrfWithAdd | macSubMrfWithSub =>
    cases h
    exact besideFixed_sticky (mulToMr_sticky _ _ _ _) (fixedSum_sticky _ _ _ _ _)
  case mulRWithAvg | macAddRMrfWithAvg | macSubRMrfWithAvg =>
    cases h
    exact besideFixed_sticky (mulToReg_sticky _ _ _) (fixedAverage_sticky _ _ _ _)
  case macAddMrfWithAvg | macSubMrfWithAvg =>
    cases h
    exact besideFixed_sticky (mulToMr_sticky _ _ _ _) (fixedAverage_sticky _ _ _ _)
  case fMulWithFAdd | fMulWithFSub | fMulWithFloatBy | fMulWithFixBy | fMulWithFAvg | fMulWithFAbs | fMulWithFMax
      | fMulWithFMin =>
    cases h
    exact besideFloat_sticky (fMulOut_sticky _ _) (floatOut_sticky _ _)
  case mulRWithDual =>
    obtain ⟨d, hd, rfl⟩ := map_ok.1 h
    exact besideFixed_sticky (mulToReg_sticky _ _ _) (dualFixed_flags hd).2
  case fMulWithDual =>
    obtain ⟨d, hd, rfl⟩ := map_ok.1 h
    exact besideFloat_sticky (fMulOut_sticky _ _) (dualFloat_flags hd).2
  all_goals
    cases h
    exact within_zero _

/-- No computation owns a flag-input bit of ASTAT (R50): it owns the bits of the units that take part in it. -/
theorem flagMaskOf_and_flagInMask (c : Compute) : flagMaskOf c &&& flagInMask = 0 := by
  have owned : flagMaskOf c = aluMask ∨ flagMaskOf c = aluMask ||| caccMask ∨ flagMaskOf c = mulMask ∨
      flagMaskOf c = shiftMask ∨ flagMaskOf c = aluMask ||| mulMask := by
    cases c <;> simp [flagMaskOf]
  rcases owned with h | h | h | h | h <;> rw [h] <;> decide

/-- No computation owns a stack-status bit of STKY (R52): it owns bits of the lowest ten. -/
theorem stickyMaskOf_and_stackStatusMask (c : Compute) : stickyMaskOf c &&& stackStatusMask = 0 := by
  have low : stickyMaskOf c &&& ~~~0x000003FF = 0 := by
    cases c <;> simp [stickyMaskOf]
  exact within.and_eq_zero low (by decide)

/-! What a computation in `Res` or an instruction gives when it goes on: rules to put such facts together along the
model's own `bind`s, so that no later proof takes a chain of them apart. -/

/-- `P` holds of whatever `x` answers. -/
def Yields {α : Type} (x : Res α) (P : α → Prop) : Prop := ∀ a, x = .ok a → P a

/-- `P` holds of the next state, where there is one. -/
def Leads (o : Host.Outcome State Fault Refusal) (P : State → Prop) : Prop := ∀ t, o = .next t → P t

section
variable {α β : Type} {x : Res α} {P : β → Prop} {Q : α → Prop}

theorem yields_ok {b : β} (h : P b) : Yields (.ok b) P := fun _ hb => by cases hb; exact h

theorem yields_error (e : Stop) (P : β → Prop) : Yields (.error e) P := fun _ hb => by cases hb

theorem Yields.bind {f : α → Res β} (hx : Yields x Q) (hf : ∀ a, Q a → Yields (f a) P) : Yields (x.bind f) P := by
  intro b hb
  obtain ⟨a, ha, hb⟩ := bind_ok.1 hb
  exact hf a (hx a ha) b hb

theorem Yields.map {f : α → β} (hx : Yields x Q) (hf : ∀ a, Q a → P (f a)) : Yields (x.map f) P := by
  intro b hb
  obtain ⟨a, ha, rfl⟩ := map_ok.1 hb
  exact hf a (hx a ha)

/-- The same where nothing needs to be known of the value. -/
theorem yields_bind {f : α → Res β} (hf : ∀ a, Yields (f a) P) : Yields (x.bind f) P :=
  Yields.bind (Q := fun _ => True) (fun _ _ => trivial) fun a _ => hf a

theorem yields_map {f : α → β} (hf : ∀ a, P (f a)) : Yields (x.map f) P :=
  Yields.map (Q := fun _ => True) (fun _ _ => trivial) fun a _ => hf a

end

section
variable {s : State} {P : State → Prop}

theorem leads_always {f : State → Res State} (hf : ∀ t, sequenced s = .ok t → Yields (f t) P) :
    Leads (always s f) P := by
  intro u hu
  obtain ⟨t, ht, hu⟩ := always_next.1 hu
  exact hf t ht u hu

theorem leads_conditional {c : Cond} {skip : State → State} {f : State → Res State}
    (hskip : ∀ t, sequenced s = .ok t → P (skip t)) (hf : ∀ t, sequenced s = .ok t → Yields (f t) P) :
    Leads (conditional c s skip f) P := by
  intro u hu
  obtain ⟨-, t, ht, hu⟩ := conditional_next.1 hu
  split at hu
  · exact hf t ht u hu
  · cases hu
    exact hskip t ht

theorem leads_branch {c : Cond} {db call : Bool} {e : Res Effect} {f : State → Res State}
    (hno : ∀ t, sequenced s = .ok t → P (untaken s t db))
    (hf : ∀ t, sequenced s = .ok t → Yields (e.bind fun e => f (applyEffect s t e)) P) :
    Leads (branch c db call e s f) P := by
  intro u hu
  obtain ⟨-, -, t, ht, hu⟩ := branch_next.1 hu
  split at hu
  · exact hf t ht u hu
  · cases hu
    exact hno t ht

theorem leads_writing {dst : Ureg} {mem : Bool} {o : Host.Outcome State Fault Refusal} (h : Leads o P) :
    Leads (writing dst mem s o) P := fun u hu => h u (writing_next.1 hu).2

end

/-! A computation alone. -/

theorem runCompute_eq_tryCompute (e : Effect) (s : State) : runCompute e s = tryCompute (.ok e) s := rfl

/-- A computation as an instruction of its own does what it does in a compute slot. -/
theorem exec_ofCompute (c : Compute) (s : State) : exec (.ofCompute c) s = tryCompute (computeEffect c s) s := by
  cases c
  case dualAddSub | dualFAddSub | mulRWithDual | fMulWithDual => rfl
  all_goals exact runCompute_eq_tryCompute _ _

/-! A step, by what happens at its boundary. -/

/-- The state in which a step's instruction executes, where no interrupt is entered. -/
def atBoundaryOf (s : State) : State := latchArithmetic (holdRequest (envStep s))

theorem step_of_no_entry {s : State} (h : entryNow (envStep s) = none) : step s = runCore (atBoundaryOf s) := by
  simp only [step, h, atBoundaryOf]

theorem runCore_of_running {s : State} (hi : s.idle = none) (ho : runIsOver s = false) :
    (∀ e, fetchInstr s = .error e → runCore s = toOutcome (.error e)) ∧
      ∀ i, fetchInstr s = .ok i →
        (∀ t, exec i s = .next t → runCore s = .next (timerTick s t)) ∧
        (∀ f, exec i s = .fault f → runCore s = .fault f) ∧ ∀ r, exec i s = .refused r → runCore s = .refused r := by
  refine ⟨fun e he => ?_, fun i hf => ⟨fun t he => ?_, fun f he => ?_, fun r he => ?_⟩⟩
  · cases e <;> simp [runCore, hi, ho, he]
  all_goals simp [runCore, hi, ho, hf, he]

/-- A step goes on into an interrupt, waits, or runs the fetched instruction and ticks the timer. -/
theorem step_next {s t : State} (h : step s = .next t) :
    (∃ b, entryNow (envStep s) = some b ∧ t = takeInterrupt (latchArithmetic (envStep s)) b) ∨
      (entryNow (envStep s) = none ∧ (∃ a, (atBoundaryOf s).idle = some a) ∧ t = waitStep (atBoundaryOf s)) ∨
      (entryNow (envStep s) = none ∧ (atBoundaryOf s).idle = none ∧ ∃ i u,
        fetchInstr (atBoundaryOf s) = .ok i ∧ exec i (atBoundaryOf s) = .next u ∧ t = timerTick (atBoundaryOf s) u) := by
  cases he : entryNow (envStep s) with
  | some b =>
    simp only [step, he, Host.Outcome.next.injEq] at h
    exact .inl ⟨b, rfl, h.symm⟩
  | none =>
    rw [step_of_no_entry he] at h
    cases hi : (atBoundaryOf s).idle with
    | some a =>
      simp only [runCore, hi, Host.Outcome.next.injEq] at h
      exact .inr (.inl ⟨rfl, ⟨a, rfl⟩, h.symm⟩)
    | none =>
      cases ho : runIsOver (atBoundaryOf s) with
      | true => simp [runCore, hi, ho] at h
      | false =>
        obtain ⟨stops, runs⟩ := runCore_of_running hi ho
        cases hf : fetchInstr (atBoundaryOf s) with
        | error e =>
          rw [stops e hf] at h
          cases e <;> simp at h
        | ok i =>
          obtain ⟨next, fault, refuse⟩ := runs i hf
          cases hx : exec i (atBoundaryOf s) with
          | next u =>
            rw [next u hx, Host.Outcome.next.injEq] at h
            exact .inr (.inr ⟨rfl, rfl, i, u, rfl, hx, h.symm⟩)
          | fault f => simp [fault f hx] at h
          | refused r => simp [refuse r hx] at h

/-! Fetching and decoding (R104, R111, R121, R150). -/

section
variable {s : State} {i : Instr} {n : Nat}

theorem fetchWord_of_dirty (h : s.dirty.contains s.pc.toNat = true) : fetchWord s = refused .selfModifiedCode := by
  simp only [fetchWord, h, if_true]

theorem fetchWord_of_unmapped (hd : s.dirty.contains s.pc.toNat = false)
    (hr : regionOf s.cfg s.pc.toNat = .unmapped) : fetchWord s = faulted .unmapped := by
  simp only [fetchWord, hd, hr, Bool.false_eq_true, if_false]

/-- Instruction words stand in the 48-bit words of internal and external memory only (R111). -/
theorem fetchWord_of_other_width (hd : s.dirty.contains s.pc.toNat = false)
    (hu : regionOf s.cfg s.pc.toNat ≠ .unmapped) (hi : ∀ b, regionOf s.cfg s.pc.toNat ≠ .internal b .w48)
    (he : regionOf s.cfg s.pc.toNat ≠ .external .w48) : fetchWord s = faulted .notInstructionWord := by
  unfold fetchWord
  rw [if_neg (by rw [hd]; exact Bool.false_ne_true)]
  split
  · next h => exact absurd h hu
  · next b h => exact absurd h (hi b)
  · next h => exact absurd h he
  · rfl

/-- The pc is at a 48-bit word that no one has written since boot. -/
def atInstructionWord (s : State) : Prop :=
  s.dirty.contains s.pc.toNat = false ∧
    ∃ b, regionOf s.cfg s.pc.toNat = .internal b .w48 ∨ regionOf s.cfg s.pc.toNat = .external .w48

theorem fetchWord_of_unwritten (h : atInstructionWord s) (hn : s.mem.readBytes (wordKey s.pc.toNat) 6 = none) :
    fetchWord s = faulted .unwrittenMemory := by
  obtain ⟨hd, b, hr | hr⟩ := h <;> simp only [fetchWord, hd, hr, hn, Bool.false_eq_true, if_false]

theorem fetchWord_of_written (h : atInstructionWord s) (hn : s.mem.readBytes (wordKey s.pc.toNat) 6 = some n) :
    fetchWord s = .ok (BitVec.ofNat 48 n) := by
  obtain ⟨hd, b, hr | hr⟩ := h <;> simp only [fetchWord, hd, hr, hn, Bool.false_eq_true, if_false]

/-- The parameter `Decode` goes before the model's own layout (R142). -/
theorem decodeFor_eq_some {p : Params} {w : W48}
    (h : p.decodes.lookup w = some (some i) ∨ (p.decodes.lookup w = none ∧ decode w = .ok i)) :
    decodeFor p w = some i := by
  rcases h with h | ⟨h, hd⟩
  · simp only [decodeFor, h]
  · simp only [decodeFor, h, hd, Except.toOption]

theorem decodeFor_eq_none {p : Params} {w : W48}
    (h : p.decodes.lookup w = some none ∨ (p.decodes.lookup w = none ∧ ∃ e, decode w = .error e)) :
    decodeFor p w = none := by
  rcases h with h | ⟨h, e, hd⟩
  · simp only [decodeFor, h]
  · simp only [decodeFor, h, hd, Except.toOption]

theorem fetchInstr_of_error {e : Stop} (h : fetchWord s = .error e) : fetchInstr s = .error e := by
  simp only [fetchInstr, h, bind_of_error]

theorem fetchInstr_of_decoded {w : W48} (h : fetchWord s = .ok w) (hd : decodeFor s.cfg w = some i) :
    fetchInstr s = .ok i := by
  simp only [fetchInstr, h, bind_of_ok, hd]

theorem fetchInstr_of_undecoded {w : W48} (h : fetchWord s = .ok w) (hd : decodeFor s.cfg w = none) :
    fetchInstr s = faulted .illegalInstruction := by
  simp only [fetchInstr, h, bind_of_ok, hd]

end

/-- Settles O3: a step at a boundary with no entry is the core's, which stops as the fetch does or runs what it
fetched; the fetch is then taken case by case. -/
theorem stepRunsDecodedInstruction : Obligations.StepRunsDecodedInstruction := by
  intro s₀ s hs entry idle running
  obtain ⟨stops, runs⟩ := runCore_of_running idle running
  have core : step s₀ = runCore s := by
    rw [step_of_no_entry entry, hs]
    rfl
  rw [core]
  refine ⟨fun hd => stops _ (fetchInstr_of_error (fetchWord_of_dirty hd)), fun hd =>
    ⟨fun hr => ?_, fun hu hi he => ?_, fun b hr => ?_⟩⟩
  · exact stops _ (fetchInstr_of_error (fetchWord_of_unmapped hd hr))
  · exact stops _ (fetchInstr_of_error (fetchWord_of_other_width hd hu hi he))
  · have word : atInstructionWord s := ⟨hd, b, hr⟩
    refine ⟨fun hn => stops _ (fetchInstr_of_error (fetchWord_of_unwritten word hn)), fun n hn =>
      ⟨fun i hi => ?_, fun hi => ?_⟩⟩
    · exact runs i (fetchInstr_of_decoded (fetchWord_of_written word hn) (decodeFor_eq_some hi))
    · exact stops _ (fetchInstr_of_undecoded (fetchWord_of_written word hn) (decodeFor_eq_none hi))

/-! The step relation of StepKeepsStatusConsistent, operation by operation. -/

/-- The parts of a state that the relation speaks of. -/
def statusPart (s : State) : Params × W32 × W32 × List (W32 × W32) × W32 × W32 :=
  (s.cfg, s.irptl, s.imaskp, s.sts, s.astat, s.stky)

/-- `t` keeps what `s` has: the parameters, consistent interrupt registers, and ASTAT and STKY without the bits that
follow the inputs and the stacks. -/
structure KeepsStatus (s t : State) : Prop where
  cfg : t.cfg = s.cfg
  interrupts : interruptsConsistent s = true → interruptsConsistent t = true
  stored : statusStored s = true → statusStored t = true

theorem interruptsConsistent_iff {s : State} :
    interruptsConsistent s = true ↔
      s.irptl &&& s.imaskp = 0 ∧ s.irptl &&& irptlReserved = 0 ∧ s.sts.length ≤ s.cfg.stsDepth := by
  simp [interruptsConsistent, and_assoc]

theorem statusStored_iff {s : State} :
    statusStored s = true ↔ s.astat &&& flagInMask = 0 ∧ s.stky &&& stackStatusMask = 0 := by
  simp [statusStored]

theorem interruptsConsistent_congr {s t : State} (h : statusPart t = statusPart s) :
    interruptsConsistent t = interruptsConsistent s := by
  simp only [statusPart, Prod.mk.injEq] at h
  obtain ⟨hc, hi, hp, hs, -, -⟩ := h
  simp only [interruptsConsistent, hc, hi, hp, hs]

theorem statusStored_congr {s t : State} (h : statusPart t = statusPart s) : statusStored t = statusStored s := by
  simp only [statusPart, Prod.mk.injEq] at h
  obtain ⟨-, -, -, -, ha, hk⟩ := h
  simp only [statusStored, ha, hk]

namespace KeepsStatus

variable {r s t u : State}

theorem refl (s : State) : KeepsStatus s s := ⟨rfl, id, id⟩

theorem trans (h : KeepsStatus r s) (h' : KeepsStatus s t) : KeepsStatus r t :=
  ⟨h'.cfg.trans h.cfg, h'.interrupts ∘ h.interrupts, h'.stored ∘ h.stored⟩

/-- An update of other parts of the state. -/
theorem of_part (h : KeepsStatus s t) (hu : statusPart u = statusPart t) : KeepsStatus s u :=
  h.trans ⟨congrArg Prod.fst hu, fun hi => (interruptsConsistent_congr hu).trans hi,
    fun hk => (statusStored_congr hu).trans hk⟩

/-! Updates of the registers themselves. -/

theorem of_interrupts (h : KeepsStatus s t) {i p : W32}
    (hip : t.irptl &&& t.imaskp = 0 → t.irptl &&& irptlReserved = 0 → i &&& p = 0 ∧ i &&& irptlReserved = 0) :
    KeepsStatus s { t with irptl := i, imaskp := p } := by
  refine h.trans ⟨rfl, fun hi => ?_, id⟩
  obtain ⟨hserved, hreserved, hdepth⟩ := interruptsConsistent_iff.1 hi
  obtain ⟨served, reserved⟩ := hip hserved hreserved
  exact interruptsConsistent_iff.2 ⟨served, reserved, hdepth⟩

/-- The status stack keeps within its depth. -/
theorem of_sts (h : KeepsStatus s t) {l : List (W32 × W32)}
    (hl : t.sts.length ≤ t.cfg.stsDepth → l.length ≤ t.cfg.stsDepth) : KeepsStatus s { t with sts := l } := by
  refine h.trans ⟨rfl, fun hi => ?_, id⟩
  obtain ⟨hserved, hreserved, hdepth⟩ := interruptsConsistent_iff.1 hi
  exact interruptsConsistent_iff.2 ⟨hserved, hreserved, hl hdepth⟩

theorem of_astat (h : KeepsStatus s t) {a : W32} (ha : t.astat &&& flagInMask = 0 → a &&& flagInMask = 0) :
    KeepsStatus s { t with astat := a } := by
  refine h.trans ⟨rfl, id, fun hst => ?_⟩
  obtain ⟨hastat, hstky⟩ := statusStored_iff.1 hst
  exact statusStored_iff.2 ⟨ha hastat, hstky⟩

theorem of_stky (h : KeepsStatus s t) {k : W32} (hk : t.stky &&& stackStatusMask = 0 → k &&& stackStatusMask = 0) :
    KeepsStatus s { t with stky := k } := by
  refine h.trans ⟨rfl, id, fun hst => ?_⟩
  obtain ⟨hastat, hstky⟩ := statusStored_iff.1 hst
  exact statusStored_iff.2 ⟨hastat, hk hstky⟩

/-- Sticky bits are set, none of them one that follows the stacks. -/
theorem of_sticky (h : KeepsStatus s t) {k : W32} (hk : k &&& stackStatusMask = 0) :
    KeepsStatus s { t with stky := t.stky ||| k } := h.of_stky fun ht => or_and_eq_zero ht hk

/-- Requests are latched, but for those in service and none of a reserved bit (R518, R519). -/
theorem of_requests (h : KeepsStatus s t) {req : W32} (hreq : req &&& irptlReserved = 0) :
    KeepsStatus s { t with irptl := t.irptl ||| (req &&& ~~~t.imaskp) } :=
  h.of_interrupts fun hserved hreserved =>
    ⟨or_and_eq_zero hserved (and_not_and_eq_zero _ _), or_and_eq_zero hreserved (and_and_eq_zero _ hreq)⟩

/-- IRPTL and IMASKP only lose bits. -/
theorem of_cleared (h : KeepsStatus s t) (x y : W32) :
    KeepsStatus s { t with irptl := t.irptl &&& x, imaskp := t.imaskp &&& y } := by
  refine h.of_interrupts fun hserved hreserved => ⟨?_, and_and_eq_zero _ hreserved⟩
  have cleared : (t.imaskp &&& y) &&& t.irptl = 0 := and_and_eq_zero y (by rwa [BitVec.and_comm])
  exact and_and_eq_zero x (by rwa [BitVec.and_comm])

/-- Interrupt `b` goes into service. -/
theorem of_service (h : KeepsStatus s t) (b : Nat) :
    KeepsStatus s { t with irptl := t.irptl &&& ~~~bitMask b, imaskp := t.imaskp ||| bitMask b } := by
  refine h.of_interrupts fun hserved hreserved => ⟨?_, and_and_eq_zero _ hreserved⟩
  rw [BitVec.and_or_distrib_left, and_not_and_eq_zero, and_and_eq_zero _ hserved, BitVec.or_self]

/-! The sequencer. -/

theorem of_sequenced (h : sequenced s = .ok t) : KeepsStatus s t := by
  rw [(sequenced_frame h).1]
  exact (refl s).of_part rfl

theorem after_restrictSlots (h : KeepsStatus s t) (r : State) : KeepsStatus s (restrictSlots r t) := h.of_part rfl

theorem after_goTo (h : KeepsStatus s t) (r : State) (j : A24) (db : Bool) : KeepsStatus s (goTo r t j db) := by
  cases db
  · exact h.of_part rfl
  · exact h.of_part rfl

theorem after_untaken (h : KeepsStatus s t) (r : State) (db : Bool) : KeepsStatus s (untaken r t db) := by
  cases db
  · exact h
  · exact h.after_restrictSlots r

/-! Requests and the stacks. -/

/-- No operation of the core requests a reserved interrupt. -/
theorem after_latch (h : KeepsStatus s t) {b : Nat} (hb : bitMask b &&& irptlReserved = 0) :
    KeepsStatus s (latch b t) := h.of_requests hb

theorem after_pushPc (h : KeepsStatus s t) (a : A24) : KeepsStatus s (pushPc t a) := by
  have room : bitMask 3 &&& irptlReserved = 0 := by decide
  unfold pushPc
  split
  · dsimp only
    split
    · refine KeepsStatus.after_latch ?_ room
      exact h.of_part rfl
    · exact h.of_part rfl
  · split
    · refine KeepsStatus.after_latch ?_ room
      exact h.of_part rfl
    · exact h

theorem after_popPc (h : KeepsStatus s t) (r : State) : Yields (popPc r t) (KeepsStatus s) := by
  intro u hu
  rw [(popPc_ok.1 hu).2]
  exact h.of_part rfl

theorem after_popLoops (h : KeepsStatus s t) : Yields (popLoops t) (KeepsStatus s) := by
  intro u hu
  rw [(popLoops_ok.1 hu).2]
  exact h.of_part rfl

/-- A push on full stacks sets a sticky bit of its own and requests SOVFI (R41, R42). -/
theorem after_overflow (h : KeepsStatus s t) {k : Nat} (hk : bitMask k &&& stackStatusMask = 0) :
    KeepsStatus s (latch 3 { t with stky := t.stky ||| bitMask k }) := (h.of_sticky hk).after_latch (by decide)

theorem after_pushLoops (h : KeepsStatus s t) : KeepsStatus s (pushLoops t) := by
  unfold pushLoops
  split
  · exact h.of_part rfl
  · exact h.after_overflow (by decide)

theorem after_pushLoop (h : KeepsStatus s t) (r : State) (w : W32) (len : Fin 4) (counted : Bool) :
    KeepsStatus s (pushLoop r t w len counted) := by
  unfold pushLoop
  split
  · exact h.of_part rfl
  · exact h.after_overflow (by decide)

theorem after_pushStatus (h : KeepsStatus s t) : KeepsStatus s (pushStatus t) := by
  unfold pushStatus
  split
  · next room => exact h.of_sts fun _ => room
  · exact h.after_overflow (by decide)

theorem after_popStatus (h : KeepsStatus s t) : Yields (popStatus t) (KeepsStatus s) := by
  intro u hu
  obtain ⟨p, l, hl, rfl⟩ := popStatus_ok.1 hu
  have shorter : t.sts.length ≤ t.cfg.stsDepth → l.length ≤ t.cfg.stsDepth := by
    rw [hl, List.length_cons]
    omega
  exact ((h.of_sts shorter).of_astat fun _ => and_not_and_eq_zero p.1 flagInMask).of_part rfl

/-! Computations. -/

/-- The flags of a computation stay off the bits that ASTAT and STKY do not store. -/
theorem after_applyEffect (h : KeepsStatus s t) (r : State) {e : Effect} (ha : e.flags.mask &&& flagInMask = 0)
    (hk : e.flags.sticky &&& stackStatusMask = 0) : KeepsStatus s (applyEffect r t e) := by
  have hastat : t.astat &&& flagInMask = 0 → e.flags.onAstat t.astat &&& flagInMask = 0 := fun ht =>
    or_and_eq_zero (and_and_eq_zero _ ht) (by rw [BitVec.and_comm e.flags.val]; exact and_and_eq_zero _ ha)
  refine ((h.of_astat hastat).of_sticky hk).of_part ?_
  rw [applyEffect_frame]
  simp only [statusPart, applyEffect_astat, applyEffect_stky]

theorem after_computeEffect (h : KeepsStatus s t) {r : State} {c : Compute} {e : Effect}
    (he : computeEffect c r = .ok e) : KeepsStatus s (applyEffect r t e) :=
  h.after_applyEffect r (by rw [computeEffect_mask he]; exact flagMaskOf_and_flagInMask c)
    ((computeEffect_sticky he).and_eq_zero (stickyMaskOf_and_stackStatusMask c))

theorem after_slotEffect (h : KeepsStatus s t) {r : State} {c : Option Compute} {e : Effect}
    (he : slotEffect c r = .ok e) : KeepsStatus s (applyEffect r t e) := by
  cases c with
  | none =>
    cases he
    exact h.after_applyEffect r BitVec.zero_and BitVec.zero_and
  | some c => exact h.after_computeEffect he

theorem after_withSlot (h : KeepsStatus s t) (r : State) (c : Option Compute) :
    Yields (withSlot c r t) (KeepsStatus s) := by
  intro u hu
  obtain ⟨e, he, rfl⟩ := map_ok.1 hu
  exact h.after_slotEffect he

/-! Register writes. -/

theorem after_noteWrite (h : KeepsStatus s t) (n : Sreg) (old : W32) : KeepsStatus s (noteWrite t n old) :=
  h.of_part rfl

/-- IRPTL is written without the bits in service and no reserved bit; IMASKP takes its bits out of IRPTL; ASTAT and STKY
are stored without the bits that follow the inputs and the stacks (R50, R52, R518, R519). -/
theorem after_putSreg (h : KeepsStatus s t) (r : State) (n : Sreg) (v : W32) :
    Yields (putSreg r t n v) (KeepsStatus s) := by
  cases n
  case mode1 | mode2 | imask | ustat1 | ustat2 => exact yields_ok (h.of_part rfl)
  case irptl =>
    simp only [putSreg]
    split
    · next hv =>
      exact yields_ok <| (h.of_interrupts (i := v &&& ~~~t.imaskp) (p := t.imaskp) fun _ _ =>
        ⟨and_not_and_eq_zero _ _, and_and_eq_zero _ hv⟩).after_noteWrite _ _
    · exact yields_error _ _
  case imaskp =>
    exact yields_ok <| (h.of_interrupts (i := t.irptl &&& ~~~v) (p := v) fun _ hreserved =>
      ⟨and_not_and_eq_zero _ _, and_and_eq_zero _ hreserved⟩).after_noteWrite _ _
  case astat => exact yields_ok ((h.of_astat fun _ => and_not_and_eq_zero v flagInMask).after_noteWrite _ _)
  case stky => exact yields_ok ((h.of_stky fun _ => and_not_and_eq_zero v stackStatusMask).after_noteWrite _ _)

theorem after_setCount (h : KeepsStatus s t) (k : Nat) (v : W32) : KeepsStatus s (setCount t k v) := by
  rw [setCount_frame]
  exact h.of_part rfl

theorem after_putCurlcntr (h : KeepsStatus s t) (r : State) (v : W32) (mem : Bool) :
    KeepsStatus s (putCurlcntr r t v mem) := by
  have loaded : KeepsStatus s { t with counterLoaded := mem } := h.of_part rfl
  unfold putCurlcntr
  dsimp only
  split
  · exact loaded
  · split
    · exact loaded
    · split
      · exact loaded.after_setCount _ _
      · exact loaded.after_setCount _ _

theorem after_putLcntr (h : KeepsStatus s t) (r : State) (v : W32) : KeepsStatus s (putLcntr r t v) := by
  unfold putLcntr
  split
  · exact h.after_setCount _ _
  · exact h

theorem after_putLaddr (h : KeepsStatus s t) (r : State) (v : W32) : KeepsStatus s (putLaddr r t v) := by
  unfold putLaddr
  split
  · exact h.of_part rfl
  · exact h

theorem after_putPcstk (h : KeepsStatus s t) (r : State) (a : A24) : Yields (putPcstk r t a) (KeepsStatus s) := by
  refine yields_bind fun _ => ?_
  split
  · exact yields_ok (h.of_part rfl)
  · exact yields_ok h

theorem after_putPcstkp (h : KeepsStatus s t) (r : State) (v : BitVec 5) :
    Yields (putPcstkp r t v) (KeepsStatus s) := by
  unfold putPcstkp
  split
  · exact yields_ok h
  · split
    · exact yields_ok (h.of_part rfl)
    · exact yields_error _ _

theorem after_putDag1 (h : KeepsStatus s t) (r : State) (k : DagKind) (n : Fin 8) (v : W32) :
    KeepsStatus s (putDag1 r t k n v) := by
  rw [putDag1_frame]
  exact h.of_part rfl

theorem after_putDag2 (h : KeepsStatus s t) (r : State) (k : DagKind) (n : Fin 8) (v : A24) :
    KeepsStatus s (putDag2 r t k n v) := by
  rw [putDag2_frame]
  exact h.of_part rfl

theorem after_putUreg (h : KeepsStatus s t) (r : State) (d : Ureg) (v : W48) (src : Source) :
    Yields (putUreg r t d v src) (KeepsStatus s) := by
  cases d
  case r | px | px1 | px2 | tcount | tperiod => exact yields_ok (h.of_part rfl)
  case dag1 => exact yields_ok (h.after_putDag1 _ _ _ _)
  case dag2 => exact yields_ok (h.after_putDag2 _ _ _ _)
  case faddr | daddr | pc => exact yields_error _ _
  case pcstk => exact h.after_putPcstk _ _
  case pcstkp => exact h.after_putPcstkp _ _
  case laddr => exact yields_ok (h.after_putLaddr _ _)
  case curlcntr => exact yields_ok (h.after_putCurlcntr _ _ _)
  case lcntr => exact yields_ok (h.after_putLcntr _ _)
  case sys => exact h.after_putSreg _ _ _

/-! Memory and the address generators. -/

theorem after_storeWord (h : KeepsStatus s t) (sp : Space) (full : Bool) (a : Nat) (v : W48) :
    KeepsStatus s (storeWord t sp full a v) := h.of_part rfl

theorem after_writeWord (h : KeepsStatus s t) (sp : Space) (full : Bool) (a : Nat) (v : W48) :
    Yields (writeWord t sp full a v) (KeepsStatus s) := by
  intro u hu
  rw [(writeWord_ok.1 hu).2]
  exact h.after_storeWord _ _ _ _

/-- A wrap sets CB7S and requests CB7I (R509). -/
theorem after_updateDag1 (h : KeepsStatus s t) (r : State) (i m : Fin 8) : KeepsStatus s (updateDag1 r t i m) := by
  have put := h.after_putDag1 r .i i (dag1Modified r i m).1
  unfold updateDag1
  dsimp only
  split
  · exact (put.of_sticky (by decide)).after_latch (by decide)
  · exact put

theorem after_updateDag2 (h : KeepsStatus s t) (r : State) (i m : Fin 8) : KeepsStatus s (updateDag2 r t i m) := by
  have put := h.after_putDag2 r .i i (dag2Modified r i m).1
  unfold updateDag2
  dsimp only
  split
  · exact (put.of_sticky (by decide)).after_latch (by decide)
  · exact put

theorem after_sideStore (h : KeepsStatus s t) (r : State) (sp : Space) (side : DualSide) (a : Nat) :
    Yields (sideStore r t sp side a) (KeepsStatus s) := by
  unfold sideStore
  split
  · exact h.after_writeWord _ _ _ _
  · exact yields_ok h

theorem after_sideWrite (h : KeepsStatus s t) (r : State) (side : DualSide) (v : W48) :
    KeepsStatus s (sideWrite r t side v) := by
  unfold sideWrite
  split
  · exact h
  · exact h.of_part rfl

/-! Branches, returns and loops. -/

theorem after_jumpTo (h : KeepsStatus s t) (r : State) (j : A24) (db : Bool) :
    Yields (jumpTo r t j db) (KeepsStatus s) := yields_map fun _ => h.after_goTo _ _ _

theorem after_callTo (h : KeepsStatus s t) (r : State) (j : A24) (db : Bool) :
    Yields (callTo r t j db) (KeepsStatus s) := by
  have pushed : ∀ a, KeepsStatus s (pushCall r t a) := fun a => by
    rw [pushCall_frame]
    exact (h.after_pushPc a).of_part rfl
  exact yields_bind fun _ => yields_map fun _ => (pushed _).after_goTo _ _ _

theorem after_returnTo (h : KeepsStatus s t) (r : State) (db : Bool) : Yields (returnTo r t db) (KeepsStatus s) :=
  yields_bind fun _ => yields_bind fun _ => (h.after_popPc r).map fun _ hu => hu.after_goTo _ _ _

theorem after_abortLoop (h : KeepsStatus s t) (r : State) (j : A24) : Yields (abortLoop r t j) (KeepsStatus s) :=
  yields_bind fun _ => yields_bind fun _ => h.after_popLoops.bind fun _ hu => yields_bind fun _ => hu.after_popPc r

theorem after_leaveService (h : KeepsStatus s t) (b : Nat) : KeepsStatus s (leaveService b t) := h.of_cleared _ _

theorem after_clearCurrent (h : KeepsStatus s t) (r : State) : KeepsStatus s (clearCurrent r t) := by
  unfold clearCurrent
  split
  · exact h
  · exact h.after_leaveService _

theorem after_startLoop (h : KeepsStatus s t) (r : State) (e : A24) (term : Cond) :
    Yields (startLoop r t e term) (KeepsStatus s) :=
  yields_bind fun _ => yields_bind fun _ => yields_bind fun _ => yields_map fun _ =>
    (h.after_pushLoop _ _ _ _).after_pushPc _

theorem after_returnInterrupt (h : KeepsStatus s t) (r : State) (db : Bool) :
    Yields (returnInterrupt r t db) (KeepsStatus s) := by
  refine (h.after_returnTo r db).bind fun u hu => ?_
  split
  · exact yields_ok hu
  · split
    · refine hu.after_popStatus.map fun w hw => KeepsStatus.after_leaveService ?_ _
      split
      · exact (hw.after_noteWrite _ _).after_noteWrite _ _
      · exact hw
    · exact yields_ok (hu.after_leaveService _)

/-! Stack instructions and the waits. -/

theorem after_doPcStack (h : KeepsStatus s t) (r : State) (op : StackOp) :
    Yields (doPcStack r t op) (KeepsStatus s) := by
  cases op with
  | none => exact yields_ok h
  | push => exact yields_map fun _ => h.after_pushPc _
  | pop => exact yields_bind fun _ => h.after_popPc r

theorem after_restoreStatus (h : KeepsStatus s t) (r : State) : Yields (restoreStatus r t) (KeepsStatus s) :=
  h.after_popStatus.map fun _ hu => (hu.after_noteWrite _ _).after_noteWrite _ _

theorem after_doStatus (h : KeepsStatus s t) (r : State) (op : StackOp) : Yields (doStatus r t op) (KeepsStatus s) := by
  cases op with
  | none => exact yields_ok h
  | push => exact yields_ok h.after_pushStatus
  | pop => exact h.after_restoreStatus r

theorem after_waitHere (h : KeepsStatus s t) (r : State) : Yields (waitHere r t) (KeepsStatus s) :=
  yields_map fun _ => h.of_part rfl

theorem after_putBtf (h : KeepsStatus s t) (b : Bool) : KeepsStatus s (putBtf t b) :=
  h.after_applyEffect t (e := .flagsOnly ⟨btfMask, flagBit 18 b, 0⟩)
    (show btfMask &&& flagInMask = 0 by decide) BitVec.zero_and

/-! What happens at the boundary. -/

theorem after_timerTick (h : KeepsStatus s t) (r : State) : KeepsStatus s (timerTick r t) := by
  unfold timerTick
  split
  · split
    · have reloaded : KeepsStatus s { t with tcount := t.tperiod } := h.of_part rfl
      exact (reloaded.after_latch (b := 23) (by decide)).after_latch (by decide)
    · exact h.of_part rfl
  · exact h

theorem after_waitStep (h : KeepsStatus s t) : KeepsStatus s (waitStep t) := by
  refine KeepsStatus.after_timerTick ?_ t
  exact h.of_part rfl

/-- The arithmetic requests are bits 24 to 27 (R507). -/
theorem after_latchArithmetic (h : KeepsStatus s t) : KeepsStatus s (latchArithmetic t) := by
  have free : ∀ b₀ b₁ b₂ b₃ : Bool,
      (flagBit 24 b₀ ||| flagBit 25 b₁ ||| flagBit 26 b₂ ||| flagBit 27 b₃) &&& irptlReserved = 0 := by decide
  exact h.of_requests (free _ _ _ _)

theorem after_holdRequest (h : KeepsStatus s t) : KeepsStatus s (holdRequest t) := by
  unfold holdRequest
  split
  · exact h.of_part rfl
  · split
    · exact h.of_part rfl
    · exact h

theorem after_envWrites (h : KeepsStatus s t) (l : List (Nat × W48)) : KeepsStatus s (l.foldl envWrite t) := by
  induction l generalizing t with
  | nil => exact h
  | cons w l ih =>
    refine ih ?_
    unfold envWrite
    split
    · exact h.after_storeWord _ _ _ _
    · exact h

/-- Every state a reset leaves is consistent, with the flags, the inputs and the count of steps of any other. -/
theorem after_reset (h : KeepsStatus s t) (hu : statusPart u = statusPart (State.resetWith t.cfg)) :
    KeepsStatus s u := by
  refine h.trans ⟨congrArg Prod.fst hu, fun _ => ?_, fun _ => ?_⟩
  · rw [interruptsConsistent_congr hu]
    exact interruptsConsistent_iff.2 ⟨BitVec.zero_and, BitVec.zero_and, Nat.zero_le _⟩
  · rw [statusStored_congr hu]
    exact statusStored_iff.2 ⟨BitVec.zero_and, BitVec.zero_and⟩

theorem envRequests_and_reserved (p : Part) : envRequests p &&& irptlReserved = 0 := by
  cases p <;> decide

theorem after_envAct (h : KeepsStatus s t) (e : EnvIn) : KeepsStatus s (envAct t e) := by
  unfold envAct
  split
  · exact h.after_reset rfl
  · have free : ∀ p, (e.irq &&& envRequests p) &&& irptlReserved = 0 := fun p => by
      rw [BitVec.and_comm e.irq]
      exact and_and_eq_zero _ (envRequests_and_reserved p)
    exact ((h.after_envWrites e.writes).of_requests (free _)).of_part rfl

theorem after_envStep (s : State) : KeepsStatus s (envStep s) := by
  unfold envStep
  split
  · exact refl s
  · refine KeepsStatus.after_envAct ?_ _
    exact (refl s).of_part rfl

theorem after_takeInterrupt (h : KeepsStatus s t) (b : Nat) : KeepsStatus s (takeInterrupt t b) := by
  have pushed : KeepsStatus s
      (if pushesStatus b then pushStatus (pushPc t (entryReturn t)) else pushPc t (entryReturn t)) := by
    split
    · exact (h.after_pushPc _).after_pushStatus
    · exact h.after_pushPc _
  exact (pushed.of_service b).of_part rfl

/-! Instructions. -/

theorem of_always {f : State → Res State} (hf : ∀ t, KeepsStatus s t → Yields (f t) (KeepsStatus s)) :
    Leads (always s f) (KeepsStatus s) := leads_always fun t ht => hf t (of_sequenced ht)

theorem of_stackInstr {f : State → Res State} (hf : ∀ t, KeepsStatus s t → Yields (f t) (KeepsStatus s)) :
    Leads (stackInstr s f) (KeepsStatus s) := of_always fun t ht => yields_bind fun _ => hf t ht

theorem of_conditional {c : Cond} {skip : State → State} {f : State → Res State}
    (hskip : ∀ t, statusPart (skip t) = statusPart t)
    (hf : ∀ t, KeepsStatus s t → Yields (f t) (KeepsStatus s)) : Leads (conditional c s skip f) (KeepsStatus s) :=
  leads_conditional (fun t ht => (of_sequenced ht).of_part (hskip t)) fun t ht => hf t (of_sequenced ht)

theorem of_branch {c : Cond} {db call : Bool} {k : Option Compute} {f : State → Res State}
    (hf : ∀ t, KeepsStatus s t → Yields (f t) (KeepsStatus s)) :
    Leads (branch c db call (slotEffect k s) s f) (KeepsStatus s) :=
  leads_branch (fun _ ht => (of_sequenced ht).after_untaken s db) fun _ ht =>
    Yields.bind (Q := fun e => slotEffect k s = .ok e) (fun _ he => he) fun _ he =>
      hf _ ((of_sequenced ht).after_slotEffect he)

end KeepsStatus

/-! The branches, each by what it does when taken. -/

section
variable (s : State) (cond : Cond) (db : Bool) (c : Option Compute)

theorem execJumpAbs_keepsStatus (addr : A24) : Leads (execJumpAbs cond addr db c s) (KeepsStatus s) :=
  KeepsStatus.of_branch fun _ ht => ht.after_jumpTo s _ _

theorem execJumpRel_keepsStatus (off : A24) : Leads (execJumpRel cond off db c s) (KeepsStatus s) :=
  KeepsStatus.of_branch fun _ ht => ht.after_jumpTo s _ _

theorem execJumpInd_keepsStatus (m i : Fin 8) : Leads (execJumpInd cond m i db c s) (KeepsStatus s) :=
  KeepsStatus.of_branch fun _ ht => ht.after_jumpTo s _ _

theorem execCallAbs_keepsStatus (addr : A24) : Leads (execCallAbs cond addr db c s) (KeepsStatus s) :=
  KeepsStatus.of_branch fun _ ht => ht.after_callTo s _ _

theorem execCallRel_keepsStatus (off : A24) : Leads (execCallRel cond off db c s) (KeepsStatus s) :=
  KeepsStatus.of_branch fun _ ht => ht.after_callTo s _ _

theorem execCallInd_keepsStatus (m i : Fin 8) : Leads (execCallInd cond m i db c s) (KeepsStatus s) :=
  KeepsStatus.of_branch fun _ ht => ht.after_callTo s _ _

theorem execRts_keepsStatus : Leads (execRts cond db c s) (KeepsStatus s) :=
  KeepsStatus.of_branch fun _ ht => yields_bind fun _ => ht.after_returnTo s _

theorem execRtsLr_keepsStatus : Leads (execRtsLr cond db c s) (KeepsStatus s) :=
  KeepsStatus.of_branch fun _ ht => ht.after_returnTo s _

theorem execRti_keepsStatus : Leads (execRti cond db c s) (KeepsStatus s) :=
  KeepsStatus.of_branch fun _ ht => yields_bind fun _ => ht.after_returnInterrupt s _

theorem execJumpLa_keepsStatus (target : Target) (ci : Bool) :
    Leads (execJumpLa cond target db ci c s) (KeepsStatus s) :=
  KeepsStatus.of_branch fun _ ht => (ht.after_abortLoop s _).map fun _ hu => by
    cases ci
    · exact hu.after_goTo s _ _
    · exact (hu.after_clearCurrent s).after_goTo s _ _

theorem execJumpCi_keepsStatus (target : Target) : Leads (execJumpCi cond target db c s) (KeepsStatus s) :=
  KeepsStatus.of_branch fun _ ht => (ht.after_clearCurrent s).after_jumpTo s _ _

end

/-- A computation alone; the encoder names which one the instruction is. -/
theorem alone_keepsStatus {i : Instr} (s : State) (h : ∃ c, i.fields = aloneFields c ∧ i = .ofCompute c) :
    Leads (exec i s) (KeepsStatus s) := by
  obtain ⟨c, -, rfl⟩ := h
  rw [exec_ofCompute]
  exact KeepsStatus.of_always fun _ ht => Yields.map (Q := fun e => computeEffect c s = .ok e) (fun _ he => he)
    fun _ he => ht.after_computeEffect he

theorem execIdle16_keepsStatus (s : State) : Leads (execIdle16 s) (KeepsStatus s) := by
  unfold execIdle16
  split
  · exact KeepsStatus.of_always fun _ ht => ht.after_waitHere s
  · exact fun _ h => by cases h

/-- Every instruction that goes on keeps the interrupt and status registers consistent. -/
theorem exec_keepsStatus (i : Instr) (s : State) : Leads (exec i s) (KeepsStatus s) := by
  have same : ∀ t : State, statusPart (id t) = statusPart t := fun _ => rfl
  have unloaded : ∀ (d : Ureg) (t : State), statusPart (notLoaded d t) = statusPart t := fun _ _ => rfl
  cases i
  case uregMove =>
    exact leads_writing <| KeepsStatus.of_conditional same fun _ ht => yields_bind fun _ =>
      (ht.after_withSlot s _).bind fun _ hu => hu.after_putUreg s _ _ _
  case loadImm => exact leads_writing <| KeepsStatus.of_always fun _ ht => ht.after_putUreg s _ _ _
  case ldDmPost =>
    exact leads_writing <| KeepsStatus.of_conditional (unloaded _) fun _ ht => yields_bind fun _ => yields_bind fun _ =>
      (ht.after_withSlot s _).bind fun _ hu => (hu.after_putUreg s _ _ _).map fun _ hw => hw.after_updateDag1 s _ _
  case ldPmPost =>
    exact leads_writing <| KeepsStatus.of_conditional (unloaded _) fun _ ht => yields_bind fun _ => yields_bind fun _ =>
      (ht.after_withSlot s _).bind fun _ hu => (hu.after_putUreg s _ _ _).map fun _ hw => hw.after_updateDag2 s _ _
  case ldDmPre | ldPmPre =>
    exact leads_writing <| KeepsStatus.of_conditional (unloaded _) fun _ ht => yields_bind fun _ =>
      (ht.after_withSlot s _).bind fun _ hu => hu.after_putUreg s _ _ _
  case ldDmAbs | ldPmAbs =>
    exact leads_writing <| KeepsStatus.of_always fun _ ht => yields_bind fun _ => ht.after_putUreg s _ _ _
  case stDmPost =>
    exact KeepsStatus.of_conditional same fun _ ht => yields_bind fun _ => (ht.after_withSlot s _).bind fun _ hu =>
      (hu.after_writeWord _ _ _ _).map fun _ hw => hw.after_updateDag1 s _ _
  case stPmPost =>
    exact KeepsStatus.of_conditional same fun _ ht => yields_bind fun _ => (ht.after_withSlot s _).bind fun _ hu =>
      (hu.after_writeWord _ _ _ _).map fun _ hw => hw.after_updateDag2 s _ _
  case stDmPre | stPmPre =>
    exact KeepsStatus.of_conditional same fun _ ht => yields_bind fun _ =>
      (ht.after_withSlot s _).bind fun _ hu => hu.after_writeWord _ _ _ _
  case stDmAbs | stPmAbs =>
    exact KeepsStatus.of_always fun _ ht => yields_bind fun _ => ht.after_writeWord _ _ _ _
  case dualMove =>
    exact KeepsStatus.of_conditional same fun _ ht => yields_bind fun _ => yields_bind fun _ => yields_bind fun _ =>
      (ht.after_withSlot s _).bind fun _ hu => (hu.after_sideStore s _ _ _).bind fun _ hv =>
        (hv.after_sideStore s _ _ _).map fun _ hw =>
          (((hw.after_sideWrite s _ _).after_sideWrite s _ _).after_updateDag1 s _ _).after_updateDag2 s _ _
  case compute c =>
    exact KeepsStatus.of_conditional same fun _ ht => Yields.map (Q := fun e => computeEffect c s = .ok e)
      (fun _ he => he) fun _ he => ht.after_computeEffect he
  case jumpAbs => exact execJumpAbs_keepsStatus _ _ _ _ _
  case jumpRel => exact execJumpRel_keepsStatus _ _ _ _ _
  case jumpInd => exact execJumpInd_keepsStatus _ _ _ _ _ _
  case callAbs => exact execCallAbs_keepsStatus _ _ _ _ _
  case callRel => exact execCallRel_keepsStatus _ _ _ _ _
  case callInd => exact execCallInd_keepsStatus _ _ _ _ _ _
  case rts => exact execRts_keepsStatus _ _ _ _
  case rtsLr => exact execRtsLr_keepsStatus _ _ _ _
  case rti => exact execRti_keepsStatus _ _ _ _
  case jumpLa => exact execJumpLa_keepsStatus _ _ _ _ _ _
  case jumpCi => exact execJumpCi_keepsStatus _ _ _ _ _
  case doAbs | doRel => exact KeepsStatus.of_always fun _ ht => ht.after_startLoop s _ _
  case doCountImm => exact KeepsStatus.of_always fun _ ht => (ht.after_putLcntr s _).after_startLoop s _ _
  case doCountUreg =>
    exact KeepsStatus.of_always fun _ ht => yields_bind fun _ => (ht.after_putLcntr s _).after_startLoop s _ _
  case bitSet | bitClr | bitTgl => exact KeepsStatus.of_always fun _ ht => ht.after_putSreg s _ _
  case bitTst | bitXor => exact KeepsStatus.of_always fun _ ht => yields_ok (ht.after_putBtf _)
  case pushLoop =>
    exact KeepsStatus.of_stackInstr fun _ ht =>
      (ht.after_pushLoops.after_doStatus s _).bind fun _ hu => hu.after_doPcStack s _
  case popLoop =>
    exact KeepsStatus.of_stackInstr fun _ ht => ht.after_popLoops.bind fun _ hu =>
      (hu.after_doStatus s _).bind fun _ hw => hw.after_doPcStack s _
  case pushSts => exact KeepsStatus.of_stackInstr fun _ ht => ht.after_pushStatus.after_doPcStack s _
  case popSts =>
    exact KeepsStatus.of_stackInstr fun _ ht => (ht.after_restoreStatus s).bind fun _ hu => hu.after_doPcStack s _
  case pushPcstk | popPcstk => exact KeepsStatus.of_stackInstr fun _ ht => ht.after_doPcStack s _
  case idle16 => exact execIdle16_keepsStatus s
  case idle => exact KeepsStatus.of_always fun _ ht => ht.after_waitHere s
  case nop => exact KeepsStatus.of_always fun _ ht => yields_ok ht
  -- what is left are the computations alone
  all_goals exact alone_keepsStatus s ⟨_, rfl, rfl⟩

/-- So does every step, whatever happens at its boundary. -/
theorem step_keepsStatus {s t : State} (h : step s = .next t) : KeepsStatus s t := by
  have boundary : KeepsStatus s (atBoundaryOf s) :=
    (KeepsStatus.after_envStep s).after_holdRequest.after_latchArithmetic
  rcases step_next h with ⟨b, -, rfl⟩ | ⟨-, -, rfl⟩ | ⟨-, -, i, u, -, hu, rfl⟩
  · exact (KeepsStatus.after_envStep s).after_latchArithmetic.after_takeInterrupt b
  · exact boundary.after_waitStep
  · exact (boundary.trans (exec_keepsStatus i _ u hu)).after_timerTick _

/-- Settles O15: the boundary, an interrupt entry, a wait and every instruction each keep the relation. -/
theorem stepKeepsStatusConsistent : Obligations.StepKeepsStatusConsistent := fun _ _ h =>
  ⟨(step_keepsStatus h).interrupts, (step_keepsStatus h).stored, (step_keepsStatus h).cfg⟩

end Sys2Proof.Machine
end

-- Proofs of the statements of 10_state.md.
section
/-! SUPPORT. The sequencer, the computations, the universal registers and the stacks: what each changes and what it
leaves. -/

namespace Sys2Proof.Machine

/-! When the sequencer answers (R33, R430, R446). -/

/-- `x` answers, and `P` holds of what it answers. -/
def Succeeds {α : Type} (x : Res α) (P : α → Prop) : Prop := ∃ a, x = .ok a ∧ P a

section
variable {α β : Type} {x : Res α} {P : β → Prop} {Q : α → Prop}

theorem succeeds_ok {b : β} (h : P b) : Succeeds (.ok b) P := ⟨b, rfl, h⟩

theorem Succeeds.bind {f : α → Res β} (hx : Succeeds x Q) (hf : ∀ a, Q a → Succeeds (f a) P) :
    Succeeds (x.bind f) P := by
  obtain ⟨a, rfl, ha⟩ := hx
  exact hf a ha

theorem Succeeds.map {f : α → β} (hx : Succeeds x Q) (hf : ∀ a, Q a → P (f a)) : Succeeds (x.map f) P := by
  obtain ⟨a, rfl, ha⟩ := hx
  exact ⟨f a, rfl, hf a ha⟩

end

/-- While a loop is active, the PC stack is neither empty nor overflowed, holds a top-of-loop address for every active
loop and was not written through its pointer just before. -/
def topsHeld (s : State) : Prop :=
  0 < s.lsp.val → s.latentPcstkp = none ∧ s.lsp.val ≤ s.pcstkp.toNat ∧ s.pcstkp.toNat ≤ 30

theorem lsp_pos_of_loopTop {s : State} {l : Level} (h : loopTop s = some l) : 0 < s.lsp.val := by
  unfold loopTop at h
  split at h
  · assumption
  · cases h

theorem loopTop_of_no_loop {s : State} (h : s.lsp.val = 0) : loopTop s = none := by simp [loopTop, h]

theorem flowReady_iff {s : State} : flowReady s = true ↔ topsHeld s ∧ endsClash s = false := by
  have outside : s.lsp.val = 0 → endsClash s = false := fun h => by simp [endsClash, loopTop_of_no_loop h]
  simp only [flowReady, topsHeld, Bool.or_eq_true, beq_iff_eq, Bool.and_eq_true, Option.isNone_iff_eq_none,
    decide_eq_true_eq, Bool.not_eq_true']
  constructor
  · rintro (h | ⟨⟨⟨h1, h2⟩, h3⟩, h4⟩)
    · exact ⟨fun hp => by omega, outside h⟩
    · exact ⟨fun _ => ⟨h1, h2, h3⟩, h4⟩
  · rintro ⟨h, h4⟩
    by_cases h0 : s.lsp.val = 0
    · exact .inl h0
    · obtain ⟨h1, h2, h3⟩ := h (by omega)
      exact .inr ⟨⟨⟨h1, h2⟩, h3⟩, h4⟩

theorem toNat_sub_one {p : BitVec 5} (h : p ≠ 0) : (p - 1).toNat = p.toNat - 1 := by bv_omega

namespace topsHeld

variable {s : State}

theorem pcstkp_ne_zero (h : topsHeld s) (hl : 0 < s.lsp.val) : s.pcstkp ≠ 0 := by
  intro h0
  obtain ⟨-, hle, -⟩ := h hl
  rw [h0] at hle
  simp at hle
  omega

theorem pcStackFree (h : topsHeld s) (hl : 0 < s.lsp.val) : pcStackFree s = .ok () := pcStackFree_ok.2 (h hl).1

theorem returnAddress (h : topsHeld s) (hl : 0 < s.lsp.val) : Succeeds (returnAddress s s) fun _ => True := by
  cases ht : pcTop s with
  | some a => exact ⟨a, returnAddress_ok.2 (.inl ht), trivial⟩
  | none => exact ⟨_, returnAddress_ok.2 (.inr ⟨ht, h.pcstkp_ne_zero hl, rfl⟩), trivial⟩

/-- The loop stacks and the PC stack are popped together, so that the tops of the other loops stay. -/
theorem popLoopEnd (h : topsHeld s) (hl : 0 < s.lsp.val) : Succeeds (popLoopEnd s) topsHeld := by
  obtain ⟨hfree, hle, hmax⟩ := h hl
  have full : s.pcstkp ≠ 31 := fun h31 => by rw [h31] at hmax; simp at hmax
  simp only [Sys2Proof.Machine.popLoopEnd, h.pcStackFree hl, bind_of_ok, popLoops, Nat.ne_of_gt hl, if_false, popPc,
    h.pcstkp_ne_zero hl, full]
  refine succeeds_ok fun hl' => ⟨hfree, ?_⟩
  have pred := toNat_sub_one (h.pcstkp_ne_zero hl)
  dsimp only at hl' ⊢
  omega

theorem endLongLoop (h : topsHeld s) (hl : 0 < s.lsp.val) (e : A24) : Succeeds (endLongLoop s e) topsHeld :=
  (h.popLoopEnd hl).map fun _ ht => ht

theorem endShortLoop (h : topsHeld s) (hl : 0 < s.lsp.val) (e : A24) (more : Nat) (counter : Bool) :
    Succeeds (endShortLoop s e more counter) topsHeld :=
  (h.returnAddress hl).bind fun _ _ => (h.popLoopEnd hl).map fun _ ht => ht

theorem setCount (h : topsHeld s) (k : Nat) (v : W32) : topsHeld (setCount s k v) := by
  rw [setCount_frame]
  exact h

theorem countLoop (h : topsHeld s) (hl : 0 < s.lsp.val) (l : Level) : Succeeds (countLoop s l) topsHeld := by
  have counted : ∀ v, topsHeld (Machine.setCount s (s.lsp.val - 1) v) ∧
      0 < (Machine.setCount s (s.lsp.val - 1) v).lsp.val := fun v => by
    refine ⟨h.setCount _ _, ?_⟩
    rw [setCount_frame]
    exact hl
  unfold Sys2Proof.Machine.countLoop
  dsimp only
  generalize (if l.kind = 1 then (3 : W32) else 2) = last
  split
  · split
    · exact (counted _).1.endLongLoop (counted _).2 _
    · exact succeeds_ok (counted _).1
  · split
    · exact (counted _).1.endShortLoop (counted _).2 _ _ _
    · split
      · exact (counted _).1.popLoopEnd (counted _).2
      · exact succeeds_ok (counted _).1

theorem testPlainLoop (h : topsHeld s) (hl : 0 < s.lsp.val) (l : Level) : Succeeds (testPlainLoop s l) topsHeld := by
  unfold Sys2Proof.Machine.testPlainLoop
  split
  · exact succeeds_ok h
  · split
    · split
      · exact h.endLongLoop hl _
      · exact succeeds_ok h
    · split
      · split
        · exact h.endShortLoop hl _ _ _
        · exact succeeds_ok h
      · exact succeeds_ok h

theorem loopTest (h : topsHeld s) : Succeeds (loopTest s) topsHeld := by
  unfold Sys2Proof.Machine.loopTest
  split
  · exact succeeds_ok h
  · next l hl =>
    have active := lsp_pos_of_loopTop hl
    split
    · exact h.testPlainLoop active l
    · split
      · exact h.countLoop active l
      · exact succeeds_ok h

theorem loopNext (h : topsHeld s) : Succeeds (loopNext s) fun _ => True := by
  unfold Sys2Proof.Machine.loopNext
  split
  · exact succeeds_ok trivial
  · next l hl =>
    have active := lsp_pos_of_loopTop hl
    split
    · rw [h.pcStackFree active]
      exact (h.returnAddress active).map fun _ _ => trivial
    · exact succeeds_ok trivial

theorem nextAddress (h : topsHeld s) : Succeeds (nextAddress s) fun _ => True := by
  unfold Sys2Proof.Machine.nextAddress
  split
  · exact h.loopNext
  · split
    · split
      · exact succeeds_ok trivial
      · exact succeeds_ok trivial
    · exact h.loopNext

end topsHeld

/-- The sequencer answers when no loop end can lack its stack entries. -/
theorem sequenced_of_flowReady {s : State} (h : flowReady s = true) : ∃ t, sequenced s = .ok t := by
  obtain ⟨held, apart⟩ := flowReady_iff.1 h
  have answer : Succeeds (sequenced s) fun _ => True := by
    rw [sequenced, apart]
    exact held.loopTest.bind fun u hu => hu.nextAddress.map fun _ _ => trivial
  obtain ⟨t, ht, -⟩ := answer
  exact ⟨t, ht⟩

/-- The instruction tests no loop and is no loop's last one. -/
def offLoopEnds (s : State) : Prop :=
  (∀ l, loopTop s = some l → nearEnd l.e s.pc = false) ∧ ∀ l, s.tail = some l → s.pc ≠ l.e

theorem offLoopEnds_of_no_loop {s : State} (hl : s.lsp.val = 0) (ht : s.tail = none) : offLoopEnds s := by
  simp [offLoopEnds, loopTop_of_no_loop hl, ht]

theorem offLoopEnds_of_atInnerEnd {s : State} (h : atInnerEnd s = false) : offLoopEnds s := by
  simp only [atInnerEnd, Bool.or_eq_false_iff] at h
  obtain ⟨⟨hl, -⟩, ht⟩ := h
  refine ⟨fun l hs => by simpa [hs] using hl, fun l hs => ?_⟩
  rw [hs] at ht
  simp only [Bool.or_eq_false_iff, beq_eq_false_iff_ne] at ht
  exact ht.1

theorem nearEnd_eq_false {e a : A24} : nearEnd e a = false ↔ a ≠ e ∧ a + 1 ≠ e ∧ a + 2 ≠ e := by
  simp [nearEnd, and_assoc]

/-- There the sequencer only moves past the instruction. -/
theorem sequenced_of_offLoopEnds {s : State} (h : offLoopEnds s) :
    sequenced s = .ok (advance s s (s.pc + 1) false) := by
  obtain ⟨hl, ht⟩ := h
  have next : loopNext s = .ok (s, s.pc + 1, false) := by
    unfold loopNext
    split
    · rfl
    · next l hs => rw [if_neg (Ne.symm (nearEnd_eq_false.1 (hl l hs)).1)]
  have nextAddr : nextAddress s = .ok (s, s.pc + 1, false) := by
    unfold nextAddress
    split
    · exact next
    · next l hs => rw [if_neg (ht l hs), next]
  have test : loopTest s = .ok s := by
    unfold loopTest
    split
    · rfl
    · next l hs =>
      obtain ⟨h0, -, h2⟩ := nearEnd_eq_false.1 (hl l hs)
      have plain : testPlainLoop s l = .ok s := by
        unfold testPlainLoop
        split
        · rfl
        · rw [if_neg fun h => h2 h.1, if_neg fun h => h0 h.1]
      have uncounted : countsHere s l = false := by
        simp only [countsHere, countTest, beq_eq_false_iff_ne.2 h0, beq_eq_false_iff_ne.2 h2, Bool.and_false,
          Bool.or_false]
      simp [plain, uncounted]
  have apart : endsClash s = false := by
    unfold endsClash
    split
    · rfl
    · next l hs => rw [hl l hs, Bool.false_and]
  simp [sequenced, apart, test, nextAddr]

/-- Loops that end as R449 forbids stop the sequencer at the last three instructions of the inner one. -/
theorem sequenced_of_endsClash {s : State} (h : endsClash s = true) :
    sequenced s = .error (.refuse .nestedLoopEnds) := by
  simp [sequenced, h]

theorem endsClash_of_level {s : State} {l : Level} (k : Fin 6) (hl : loopTop s = some l) (hk : k.val + 1 < s.lsp.val)
    (hpc : s.pc = l.e ∨ s.pc + 1 = l.e ∨ s.pc + 2 = l.e)
    (he : (levelAt s k).e = l.e ∨ ((levelAt s k).kind = 0 ∧ (levelAt s k).e.toNat < l.e.toNat + 2)) :
    endsClash s = true := by
  have near : nearEnd l.e s.pc = true := by simpa [nearEnd, or_assoc] using hpc
  have clash : apartFrom s (s.lsp.val - 1) l.e = false := by
    refine List.all_eq_false.2 ⟨k, List.mem_finRange k, ?_⟩
    have below : ¬ s.lsp.val - 1 ≤ k.val := by omega
    rcases he with he | ⟨h0, he⟩
    · simp [below, he]
    · simp [below, h0, he]
  simp [endsClash, hl, near, clash]

/-- Settles O7: with its stack entries held the sequencer answers and keeps to its own fields, clashing ends refuse, and
away from loop ends it only moves past the instruction. -/
theorem sequencerAnswers : Obligations.SequencerAnswers := by
  intro s
  refine ⟨fun h => ?_, fun l k hl hk hpc he => sequenced_of_endsClash (endsClash_of_level k hl hk hpc he),
    fun hl ht => ?_⟩
  · obtain ⟨t, ht⟩ := sequenced_of_flowReady h
    obtain ⟨frame, hlatent, hpointer, -, -, hdrawn⟩ := sequenced_frame ht
    exact ⟨t, ht, frame, hlatent, hpointer, hdrawn⟩
  · have moved := sequenced_of_offLoopEnds (offLoopEnds_of_no_loop hl ht)
    refine ⟨_, moved, (sequenced_frame moved).1, rfl, rfl, rfl, fun hd => ?_, fun j hd => ?_, fun j hd => ?_⟩
    all_goals simp [advance, hd]

/-! What reset leaves (R70, R71, R571). -/

/-- Settles O1: every field is read off the reset state; with MODE1 zero the primary registers are selected and no
request is valid. -/
theorem resetLeavesStatedValues : Obligations.ResetLeavesStatedValues := by
  intro p s
  have mode : effMode1 s = 0 := rfl
  have disabled : bitOf s.mode1 12 = false := by simp [bitOf, s, State.resetWith]
  refine ⟨rfl, ?_, ?_, disabled, fun n => ?_, ?_, fun n => ⟨?_, ?_⟩, rfl, ?_, ?_, ?_, by simp [validRequest, disabled]⟩
  · rintro (h | h) <;> simp [s, State.resetWith, imaskReset, h]
  · rintro (h | h) <;> simp [s, State.resetWith, imaskReset, h]
  · simp [regIdx, mode, bitOf]
  · simp [mrIdx, mode, bitOf]
  · simp [dag1Idx, dagIdx, mode, bitOf]
  · simp [dag2Idx, dagIdx, mode, bitOf]
  · simp [readSreg, withStackStatus, stackStatus, readPcstkp, s, State.resetWith, bitOf]
  · rintro (h | h) <;> simp [s, State.resetWith, resetVector, ivtBase, h]
  · intro h hi
    simp [s, State.resetWith, resetVector, ivtBase, h, hi]

/-! A computation's results in the registers (R23, R25, R51, R52). -/

theorem get_set {α : Type} {n i : Nat} (v : Vector α n) (a : α) (h : i < n) (k : Fin n) :
    (v.set i a h).get k = if i = k.val then a else v.get k := by
  simp only [Vector.get_eq_getElem, Vector.getElem_set]

theorem regIdx_val (s : State) (n : Reg) :
    (regIdx s n).val = n.val + if bitOf (effMode1 s) (if n.val < 8 then 10 else 7) = true then 16 else 0 := by
  unfold regIdx
  generalize (if n.val < 8 then 10 else 7) = k
  cases bitOf (effMode1 s) k <;> rfl

theorem regIdx_injective {s : State} {n m : Reg} (h : regIdx s n = regIdx s m) : n = m := by
  have place : ∀ k : Reg, (regIdx s k).val % 16 = k.val := fun k => by
    rw [regIdx_val]
    split_ifs <;> omega
  exact Fin.ext (by rw [← place n, ← place m, h])

theorem putReg_get (s t : State) (n : Reg) (v : W40) (k : Fin 32) :
    (putReg s t n v).rf.get k = if regIdx s n = k then v else t.rf.get k := by
  rw [putReg_rf, get_set]
  simp only [Fin.ext_iff]

/-- A list of register writes leaves the registers it does not name. -/
theorem putRegs_get_other (s : State) {l : List (Reg × W40)} {k : Fin 32} (t : State)
    (h : ∀ n ∈ l.map Prod.fst, regIdx s n ≠ k) : (putRegs s t l).rf.get k = t.rf.get k := by
  induction l generalizing t with
  | nil => rfl
  | cons p l ih =>
    simp only [List.map_cons, List.forall_mem_cons] at h
    rw [putRegs, ih _ h.2, putReg_get, if_neg h.1]

/-- The last write of a register counts. -/
theorem putRegs_get_last (s : State) {l₁ l₂ : List (Reg × W40)} {n : Reg} {v : W40} (t : State)
    (h : ∀ p ∈ l₂, p.1 ≠ n) : (putRegs s t (l₁ ++ (n, v) :: l₂)).rf.get (regIdx s n) = v := by
  induction l₁ generalizing t with
  | nil =>
    have others : ∀ m ∈ l₂.map Prod.fst, regIdx s m ≠ regIdx s n := by
      simp only [List.forall_mem_map]
      exact fun p hp e => h p hp (regIdx_injective e)
    rw [List.nil_append, putRegs, putRegs_get_other s _ others, putReg_get, if_pos rfl]
  | cons p l₁ ih => exact ih _

theorem onAstat_getLsbD (f : FlagOut) (a : W32) {j : Nat} (hj : j < 32) :
    (f.onAstat a).getLsbD j = if f.mask.getLsbD j then f.val.getLsbD j else a.getLsbD j := by
  simp only [FlagOut.onAstat, BitVec.getLsbD_or, BitVec.getLsbD_and, BitVec.getLsbD_not, hj, decide_true, Bool.true_and]
  cases f.mask.getLsbD j <;> simp

/-- The ASTAT bits that a computation does not own stay. -/
theorem onAstat_and_not_mask (f : FlagOut) (a : W32) : f.onAstat a &&& ~~~f.mask = a &&& ~~~f.mask := by
  refine BitVec.eq_of_getLsbD_eq fun j hj => ?_
  simp only [BitVec.getLsbD_and, BitVec.getLsbD_not, onAstat_getLsbD f a hj, hj, decide_true, Bool.true_and]
  cases f.mask.getLsbD j <;> simp

/-- Settles O21: the registers land in the order of the list, the MR register and the flags each in their place. -/
theorem effectLands : Obligations.EffectLands := by
  intro s t l mr mask val sticky u
  have hmr : u.mr = (putMr t mr).mr := applyEffect_mr s t _
  refine ⟨applyEffect_frame s t _, fun l₁ l₂ n v hl h => ?_, fun k h => ?_, fun h => ?_, fun k a h => ?_,
    fun j hj => ?_, fun j _ => ?_⟩
  · rw [applyEffect_rf, hl]
    exact putRegs_get_last s t h
  · rw [applyEffect_rf]
    exact putRegs_get_other s t h
  · rw [hmr, h]
    rfl
  · rw [hmr, h]
    simp only [putMr, get_set, if_true, true_and]
    exact fun j hj => if_neg fun e => hj (Fin.ext e.symm)
  · rw [applyEffect_astat]
    exact onAstat_getLsbD _ _ hj
  · rw [applyEffect_stky]
    exact BitVec.getLsbD_or

/-! What a computation alone leaves unchanged (R51, R57). -/

theorem dualFixed_regs {s : State} {a d : Reg} {x y : W32} {e : Effect} (h : dualFixed s a d x y = .ok e) :
    e.regs.map Prod.fst = [a, d] ∧ e.mr = none := by
  unfold dualFixed at h
  split at h
  · cases h
  · cases h
    exact ⟨rfl, rfl⟩

theorem dualFloat_regs {s : State} {a d x y : Reg} {e : Effect} (h : dualFloat s a d x y = .ok e) :
    e.regs.map Prod.fst = [a, d] ∧ e.mr = none := by
  unfold dualFloat at h
  split at h
  · cases h
  · cases h
    exact ⟨rfl, rfl⟩

/-- What the unit in the lower place and a dual add/subtract write together. -/
theorem beside_dual_regs {low high : Effect} {m a d : Reg} (hl : low.regs.map Prod.fst = [m] ∧ low.mr = none)
    (hh : high.regs.map Prod.fst = [a, d] ∧ high.mr = none) :
    (low.beside high).regs.map Prod.fst = [m, a, d] ∧ (low.beside high).mr = none := by
  simp [Effect.beside, hl, hh]

/-- A computation writes exactly the registers it owns. -/
theorem computeEffect_dests {c : Compute} {s : State} {e : Effect} (h : computeEffect c s = .ok e) :
    e.regs.map Prod.fst = destsOf c ∧ e.mr.map Prod.fst = (mrDestOf c).map (mrIdx s) := by
  have noMr : ∀ {l : List Reg}, e.regs.map Prod.fst = l ∧ e.mr = none →
      e.regs.map Prod.fst = l ∧ e.mr.map Prod.fst = none := fun h => ⟨h.1, by rw [h.2]; rfl⟩
  cases c
  case dualAddSub => exact noMr (dualFixed_regs h)
  case dualFAddSub => exact noMr (dualFloat_regs h)
  case mulRWithDual =>
    obtain ⟨d, hd, rfl⟩ := map_ok.1 h
    exact noMr (beside_dual_regs ⟨rfl, rfl⟩ (dualFixed_regs hd))
  case fMulWithDual =>
    obtain ⟨d, hd, rfl⟩ := map_ok.1 h
    exact noMr (beside_dual_regs ⟨rfl, rfl⟩ (dualFloat_regs hd))
  all_goals
    cases h
    exact ⟨rfl, rfl⟩

theorem putMr_get_other {t : State} {p : Option (Fin 2 × W80)} {k : Fin 2} (h : p.map Prod.fst ≠ some k) :
    (putMr t p).mr.get k = t.mr.get k := by
  cases p with
  | none => rfl
  | some p =>
    simp only [Option.map_some, ne_eq, Option.some.injEq] at h
    simp only [putMr, get_set, if_neg fun e => h (Fin.ext e)]

/-- Settles O19: a computation alone is the sequencer and then its effect, which writes what the computation owns. -/
theorem computationFrame : Obligations.ComputationFrame := by
  intro c s u h
  rw [exec_ofCompute] at h
  obtain ⟨t, ht, e, he, rfl⟩ := tryCompute_next.1 h
  have frame := (sequenced_frame ht).1
  have kept : t.rf = s.rf ∧ t.mr = s.mr ∧ t.astat = s.astat ∧ t.stky = s.stky ∧ t.mem = s.mem := by
    rw [frame]
    exact ⟨rfl, rfl, rfl, rfl, rfl⟩
  obtain ⟨hrf, hmr, hastat, hstky, hmem⟩ := kept
  obtain ⟨dests, mrDest⟩ := computeEffect_dests he
  refine ⟨?_, fun k hk => ?_, fun k hk => ?_, ?_, ?_, ?_, fun k => ?_⟩
  · rw [applyEffect_frame, frame]
    rfl
  · rw [applyEffect_rf, putRegs_get_other s t (by rw [dests]; exact hk), hrf]
  · rw [applyEffect_mr, putMr_get_other, hmr]
    rw [mrDest]
    cases hb : mrDestOf c with
    | none => simp
    | some b => simpa using hk b hb
  · rw [applyEffect_astat, hastat, ← computeEffect_mask he]
    exact onAstat_and_not_mask _ _
  · rw [applyEffect_stky, hstky, BitVec.not_or, ← BitVec.and_assoc, BitVec.and_not_self]
    exact BitVec.zero_and
  · have own : within s.stky s.stky := BitVec.and_not_self s.stky
    rw [applyEffect_stky, hstky]
    exact own.or (computeEffect_sticky he)
  · rw [applyEffect_mem, hmem]

/-! Clearing and moving the MR registers (R29, R30, R280, R290, R291). -/

/-- A computation alone runs wherever the sequencer does. -/
theorem computes_of_computeEffect {c : Compute} {s : State} {e : Effect} (hs : flowReady s = true)
    (he : computeEffect c s = .ok e) : computes (.ofCompute c) s e := by
  obtain ⟨t, ht⟩ := sequenced_of_flowReady hs
  exact ⟨t, ht, (sequenced_frame ht).1, by rw [exec_ofCompute, he]; exact tryCompute_next.2 ⟨t, ht, e, rfl, rfl⟩⟩

theorem mrPart_zero (a : W80) : mrPart 0 a = BitVec.ofNat 32 a.toNat := by
  apply BitVec.eq_of_toNat_eq
  simp [mrPart]

theorem mrPart_one (a : W80) : mrPart 1 a = BitVec.ofNat 32 (a.toNat / 2 ^ 32) := by
  apply BitVec.eq_of_toNat_eq
  simp [mrPart, Nat.shiftRight_eq_div_pow]

/-- MR2 is read as the sign-extended top of the register. -/
theorem mrPart_two (a : W80) : mrPart 2 a = BitVec.ofInt 32 (a.toInt / 2 ^ 64) := by
  have top : (a.extractLsb' 64 16).toNat = a.toNat / 2 ^ 64 := by
    rw [BitVec.extractLsb'_toNat, Nat.shiftRight_eq_div_pow]
    have := a.isLt
    omega
  have value : (a.extractLsb' 64 16).toInt = a.toInt / 2 ^ 64 := by
    have := a.isLt
    rw [BitVec.toInt_eq_toNat_cond, BitVec.toInt_eq_toNat_cond, top]
    split <;> split <;> omega
  rw [← value]
  rfl

theorem toNat_append_eq_add {m n : Nat} (x : BitVec m) (y : BitVec n) :
    (x ++ y).toNat = x.toNat * 2 ^ n + y.toNat := by
  rw [BitVec.toNat_append, ← Nat.shiftLeft_add_eq_or_of_lt y.isLt, Nat.shiftLeft_eq]

theorem mrWithPart_zero (a : W80) (v : W32) :
    mrWithPart 0 a v = BitVec.ofNat 80 (a.toNat / 2 ^ 32 * 2 ^ 32 + v.toNat) := by
  have joined : (mrWithPart 0 a v).toNat = (a.extractLsb' 32 48).toNat * 2 ^ 32 + v.toNat := toNat_append_eq_add _ _
  have ha := a.isLt
  have hv := v.isLt
  apply BitVec.eq_of_toNat_eq
  rw [joined, BitVec.extractLsb'_toNat, Nat.shiftRight_eq_div_pow, BitVec.toNat_ofNat]
  omega

/-- A write of MR1 sign-extends into MR2. -/
theorem mrWithPart_one (a : W80) (v : W32) :
    mrWithPart 1 a v = BitVec.ofInt 80 (v.toInt * 2 ^ 32 + (a.toNat % 2 ^ 32 : Nat)) := by
  have joined : (mrWithPart 1 a v).toNat = (BitVec.ofInt 48 v.toInt).toNat * 2 ^ 32 + (a.extractLsb' 0 32).toNat :=
    toNat_append_eq_add _ _
  apply BitVec.eq_of_toNat_eq
  rw [joined, BitVec.extractLsb'_toNat, Nat.shiftRight_zero, BitVec.toNat_ofInt, BitVec.toNat_ofInt]
  omega

theorem mrWithPart_two (a : W80) (v : W32) :
    mrWithPart 2 a v = BitVec.ofNat 80 (v.toNat % 2 ^ 16 * 2 ^ 64 + a.toNat % 2 ^ 64) := by
  have joined : (mrWithPart 2 a v).toNat = (v.setWidth 16).toNat * 2 ^ 64 + (a.extractLsb' 0 64).toNat :=
    toNat_append_eq_add _ _
  apply BitVec.eq_of_toNat_eq
  rw [joined, BitVec.extractLsb'_toNat, BitVec.toNat_setWidth, Nat.shiftRight_zero, BitVec.toNat_ofNat]
  omega

/-- Settles O37: each transfer is a computation alone, and its part of the MR register is the number the statement
gives. -/
theorem mrTransferResults : Obligations.MrTransferResults := by
  intro s n hs rd wr f b v
  have does : ∀ {c : Compute} {e e' : Effect}, computeEffect c s = .ok e → e = e' → computes (.ofCompute c) s e' :=
    fun he h => computes_of_computeEffect hs (h ▸ he)
  have reads : ∀ {back : Bool} {k : Nat} {w : W32}, mrPart k (mrReg s back) = w → readMr s n back k = rd w :=
    fun h => by rw [readMr, h]; rfl
  have writes : ∀ {back : Bool} {k : Nat} {w : W80}, mrWithPart k (mrReg s back) v = w →
      writeMr s n back k = wr back w := fun h => by rw [writeMr, h]; rfl
  refine ⟨does (c := .clrMrf) rfl rfl, does (c := .clrMrb) rfl rfl,
    does (c := .rdMr0f n) rfl (reads (mrPart_zero _)), does (c := .rdMr1f n) rfl (reads (mrPart_one _)),
    does (c := .rdMr2f n) rfl (reads (mrPart_two _)), does (c := .rdMr0b n) rfl (reads (mrPart_zero _)),
    does (c := .rdMr1b n) rfl (reads (mrPart_one _)), does (c := .rdMr2b n) rfl (reads (mrPart_two _)),
    fun back => ⟨?_, ?_⟩⟩
  · rintro rfl
    exact ⟨does (c := .wrMr0f n) rfl (writes (mrWithPart_zero _ _)),
      does (c := .wrMr1f n) rfl (writes (mrWithPart_one _ _)), does (c := .wrMr2f n) rfl (writes (mrWithPart_two _ _))⟩
  · rintro rfl
    exact ⟨does (c := .wrMr0b n) rfl (writes (mrWithPart_zero _ _)),
      does (c := .wrMr1b n) rfl (writes (mrWithPart_one _ _)), does (c := .wrMr2b n) rfl (writes (mrWithPart_two _ _))⟩

/-! The banks and the control registers, operation by operation (R21, R52, R517, R523). -/

/-- The parts of a state that the relation below speaks of. -/
def controlPart (s : State) : Vector W40 32 × W32 × W32 × W32 × W32 := (s.rf, s.stky, s.imask, s.mode1, s.imaskp)

/-- `t` has the data registers of the banks that `s` does not select, and `s`'s sticky flags and control registers but
for those that `may` allows to change. -/
structure Spares (may : Sreg → Bool) (s t : State) : Prop where
  banks : ∀ k : Fin 32, (∀ n : Reg, regIdx s n ≠ k) → t.rf.get k = s.rf.get k
  stky : may .stky = false → s.stky &&& ~~~t.stky = 0
  imask : may .imask = false → t.imask = s.imask
  mode1 : may .mode1 = false → t.mode1 = s.mode1
  imaskp : may .imaskp = false → t.imaskp = s.imaskp

/-- A flag that is set stays so when others are set. -/
theorem sticky_or {a b : W32} (k : W32) (h : a &&& ~~~b = 0) : a &&& ~~~(b ||| k) = 0 := by
  rw [BitVec.not_or, ← BitVec.and_assoc]
  exact (congrArg (· &&& ~~~k) h).trans BitVec.zero_and

namespace Spares

variable {may : Sreg → Bool} {s t u : State}

theorem refl (may : Sreg → Bool) (s : State) : Spares may s s :=
  ⟨fun _ _ => rfl, fun _ => BitVec.and_not_self _, fun _ => rfl, fun _ => rfl, fun _ => rfl⟩

/-- An update of other parts of the state. -/
theorem of_part (h : Spares may s t) (hu : controlPart u = controlPart t) : Spares may s u := by
  simp only [controlPart, Prod.mk.injEq] at hu
  obtain ⟨hrf, hstky, himask, hmode1, himaskp⟩ := hu
  exact ⟨hrf ▸ h.banks, hstky ▸ h.stky, himask ▸ h.imask, hmode1 ▸ h.mode1, himaskp ▸ h.imaskp⟩

theorem of_sticky (h : Spares may s t) (k : W32) : Spares may s { t with stky := t.stky ||| k } :=
  { h with stky := fun hm => sticky_or k (h.stky hm) }

theorem of_sequenced (may : Sreg → Bool) (h : sequenced s = .ok t) : Spares may s t := by
  rw [(sequenced_frame h).1]
  exact (refl may s).of_part rfl

theorem after_untaken (h : Spares may s t) (r : State) (db : Bool) : Spares may s (untaken r t db) := by
  cases db
  · exact h
  · exact h.of_part rfl

theorem after_goTo (h : Spares may s t) (r : State) (j : A24) (db : Bool) : Spares may s (goTo r t j db) := by
  cases db
  · exact h.of_part rfl
  · exact h.of_part rfl

/-! The stacks. -/

theorem after_pushPc (h : Spares may s t) (a : A24) : Spares may s (pushPc t a) := by
  rw [pushPc_frame]
  exact h.of_part rfl

theorem after_popPc (h : Spares may s t) (r : State) : Yields (popPc r t) (Spares may s) := by
  intro u hu
  rw [(popPc_ok.1 hu).2]
  exact h.of_part rfl

theorem after_popLoops (h : Spares may s t) : Yields (popLoops t) (Spares may s) := by
  intro u hu
  rw [(popLoops_ok.1 hu).2]
  exact h.of_part rfl

/-- A push on full stacks sets a sticky flag and requests SOVFI (R41, R42). -/
theorem after_overflow (h : Spares may s t) (k : Nat) :
    Spares may s (latch 3 { t with stky := t.stky ||| bitMask k }) :=
  (h.of_sticky (bitMask k)).of_part rfl

theorem after_pushLoops (h : Spares may s t) : Spares may s (pushLoops t) := by
  unfold pushLoops
  split
  · exact h.of_part rfl
  · exact h.after_overflow 25

theorem after_pushLoop (h : Spares may s t) (r : State) (w : W32) (len : Fin 4) (counted : Bool) :
    Spares may s (pushLoop r t w len counted) := by
  unfold pushLoop
  split
  · exact h.of_part rfl
  · exact h.after_overflow 25

theorem after_pushStatus (h : Spares may s t) : Spares may s (pushStatus t) := by
  unfold pushStatus
  split
  · exact h.of_part rfl
  · exact h.after_overflow 23

theorem after_popStatus (h : Spares may s t) (hm : may .mode1 = true) : Yields (popStatus t) (Spares may s) := by
  intro u hu
  obtain ⟨p, l, -, rfl⟩ := popStatus_ok.1 hu
  exact { h with mode1 := fun hm' => by rw [hm] at hm'; cases hm' }

/-! Computations write registers of the selected banks (R22) and only set sticky flags. -/

theorem after_putReg (h : Spares may s t) (n : Reg) (v : W40) : Spares may s (putReg s t n v) :=
  { h with banks := fun k hk => by rw [putReg_get, if_neg (hk n)]; exact h.banks k hk }

theorem after_applyEffect (h : Spares may s t) (e : Effect) : Spares may s (applyEffect s t e) := by
  have landed : Spares may s { t with rf := (putRegs s t e.regs).rf, stky := t.stky ||| e.flags.sticky } :=
    { h.of_sticky e.flags.sticky with
      banks := fun k hk => (putRegs_get_other s t fun n _ => hk n).trans (h.banks k hk) }
  refine landed.of_part ?_
  rw [applyEffect_frame]
  simp only [controlPart, applyEffect_rf, applyEffect_stky]

theorem after_effect (h : Spares may s t) {e : Res Effect} : Yields (e.map (applyEffect s t)) (Spares may s) :=
  yields_map fun _ => h.after_applyEffect _

/-! Register writes. -/

theorem after_putSreg (h : Spares may s t) (r : State) {n : Sreg} (v : W32) (hn : may n = true) :
    Yields (putSreg r t n v) (Spares may s) := by
  have barred : ∀ {p : Prop}, may n = false → p := fun hf => by rw [hn] at hf; cases hf
  cases n
  case irptl =>
    simp only [putSreg]
    split
    · exact yields_ok (h.of_part rfl)
    · exact yields_error _ _
  case imask => exact yields_ok { h with imask := barred }
  case mode1 => exact yields_ok { h with mode1 := barred }
  case imaskp => exact yields_ok { h with imaskp := barred }
  case stky => exact yields_ok { h with stky := barred }
  case mode2 | astat | ustat1 | ustat2 => exact yields_ok (h.of_part rfl)

theorem after_setCount (h : Spares may s t) (k : Nat) (v : W32) : Spares may s (setCount t k v) := by
  rw [setCount_frame]
  exact h.of_part rfl

theorem after_putCurlcntr (h : Spares may s t) (r : State) (v : W32) (mem : Bool) :
    Spares may s (putCurlcntr r t v mem) := by
  have loaded : Spares may s { t with counterLoaded := mem } := h.of_part rfl
  unfold putCurlcntr
  dsimp only
  split
  · exact loaded
  · split
    · exact loaded
    · split
      · exact loaded.after_setCount _ _
      · exact loaded.after_setCount _ _

theorem after_putLcntr (h : Spares may s t) (r : State) (v : W32) : Spares may s (putLcntr r t v) := by
  unfold putLcntr
  split
  · exact h.after_setCount _ _
  · exact h

theorem after_putLaddr (h : Spares may s t) (r : State) (v : W32) : Spares may s (putLaddr r t v) := by
  unfold putLaddr
  split
  · exact h.of_part rfl
  · exact h

theorem after_putPcstk (h : Spares may s t) (r : State) (a : A24) : Yields (putPcstk r t a) (Spares may s) := by
  refine yields_bind fun _ => ?_
  split
  · exact yields_ok (h.of_part rfl)
  · exact yields_ok h

theorem after_putPcstkp (h : Spares may s t) (r : State) (v : BitVec 5) :
    Yields (putPcstkp r t v) (Spares may s) := by
  unfold putPcstkp
  split
  · exact yields_ok h
  · split
    · exact yields_ok (h.of_part rfl)
    · exact yields_error _ _

theorem after_putUreg (h : Spares may s t) {d : Ureg} (v : W48) (src : Source)
    (hd : ∀ n, d = .sys n → may n = true) : Yields (putUreg s t d v src) (Spares may s) := by
  cases d
  case r => exact yields_ok (h.after_putReg _ _)
  case px | px1 | px2 | tcount | tperiod => exact yields_ok (h.of_part rfl)
  case dag1 => exact yields_ok (by rw [putDag1_frame]; exact h.of_part rfl)
  case dag2 => exact yields_ok (by rw [putDag2_frame]; exact h.of_part rfl)
  case faddr | daddr | pc => exact yields_error _ _
  case pcstk => exact h.after_putPcstk _ _
  case pcstkp => exact h.after_putPcstkp _ _
  case laddr => exact yields_ok (h.after_putLaddr _ _)
  case curlcntr => exact yields_ok (h.after_putCurlcntr _ _ _)
  case lcntr => exact yields_ok (h.after_putLcntr _ _)
  case sys n => exact h.after_putSreg _ _ (hd n rfl)

/-! Memory and the address generators. -/

theorem after_writeWord (h : Spares may s t) (sp : Space) (full : Bool) (a : Nat) (v : W48) :
    Yields (writeWord t sp full a v) (Spares may s) := by
  intro u hu
  rw [(writeWord_ok.1 hu).2]
  exact h.of_part rfl

theorem after_updateDag1 (h : Spares may s t) (i m : Fin 8) : Spares may s (updateDag1 s t i m) := by
  have put : Spares may s (putDag1 s t .i i (dag1Modified s i m).1) := h.of_part rfl
  unfold updateDag1
  dsimp only
  split
  · exact (put.of_sticky (bitMask 17)).of_part rfl
  · exact put

theorem after_updateDag2 (h : Spares may s t) (i m : Fin 8) : Spares may s (updateDag2 s t i m) := by
  have put : Spares may s (putDag2 s t .i i (dag2Modified s i m).1) := h.of_part rfl
  unfold updateDag2
  dsimp only
  split
  · exact (put.of_sticky (bitMask 18)).of_part rfl
  · exact put

theorem after_sideStore (h : Spares may s t) (sp : Space) (side : DualSide) (a : Nat) :
    Yields (sideStore s t sp side a) (Spares may s) := by
  unfold sideStore
  split
  · exact h.after_writeWord _ _ _ _
  · exact yields_ok h

theorem after_sideWrite (h : Spares may s t) (side : DualSide) (v : W48) : Spares may s (sideWrite s t side v) := by
  unfold sideWrite
  split
  · exact h
  · exact h.after_putReg _ _

/-! Branches, returns and loops. -/

theorem after_jumpTo (h : Spares may s t) (j : A24) (db : Bool) : Yields (jumpTo s t j db) (Spares may s) :=
  yields_map fun _ => h.after_goTo _ _ _

theorem after_callTo (h : Spares may s t) (j : A24) (db : Bool) : Yields (callTo s t j db) (Spares may s) := by
  have pushed : ∀ a, Spares may s (pushCall s t a) := fun a => by
    rw [pushCall_frame]
    exact (h.after_pushPc a).of_part rfl
  exact yields_bind fun _ => yields_map fun _ => (pushed _).after_goTo _ _ _

theorem after_returnTo (h : Spares may s t) (db : Bool) : Yields (returnTo s t db) (Spares may s) :=
  yields_bind fun _ => yields_bind fun _ => (h.after_popPc s).map fun _ hu => hu.after_goTo _ _ _

theorem after_abortLoop (h : Spares may s t) (j : A24) : Yields (abortLoop s t j) (Spares may s) :=
  yields_bind fun _ => yields_bind fun _ => h.after_popLoops.bind fun _ hu => yields_bind fun _ => hu.after_popPc s

theorem after_leaveService (h : Spares may s t) (hm : may .imaskp = true) (b : Nat) :
    Spares may s (leaveService b t) :=
  { h with imaskp := fun hm' => by rw [hm] at hm'; cases hm' }

theorem after_clearCurrent (h : Spares may s t) (hm : may .imaskp = true) : Spares may s (clearCurrent s t) := by
  unfold clearCurrent
  split
  · exact h
  · exact h.after_leaveService hm _

theorem after_returnInterrupt (h : Spares may s t) (hm : may .mode1 = true) (hp : may .imaskp = true) (db : Bool) :
    Yields (returnInterrupt s t db) (Spares may s) := by
  refine (h.after_returnTo db).bind fun u hu => ?_
  split
  · exact yields_ok hu
  · split
    · refine (hu.after_popStatus hm).map fun w hw => Spares.after_leaveService ?_ hp _
      split
      · exact hw.of_part rfl
      · exact hw
    · exact yields_ok (hu.after_leaveService hp _)

theorem after_startLoop (h : Spares may s t) (e : A24) (term : Cond) : Yields (startLoop s t e term) (Spares may s) :=
  yields_bind fun _ => yields_bind fun _ => yields_bind fun _ => yields_map fun _ =>
    (h.after_pushLoop _ _ _ _).after_pushPc _

/-! Stack instructions and the waits. -/

theorem after_doPcStack (h : Spares may s t) (op : StackOp) : Yields (doPcStack s t op) (Spares may s) := by
  cases op with
  | none => exact yields_ok h
  | push => exact yields_map fun _ => h.after_pushPc _
  | pop => exact yields_bind fun _ => h.after_popPc s

theorem after_restoreStatus (h : Spares may s t) (hm : may .mode1 = true) :
    Yields (restoreStatus s t) (Spares may s) := (h.after_popStatus hm).map fun _ hu => hu.of_part rfl

theorem after_doStatus (h : Spares may s t) {op : StackOp} (hm : op = .pop → may .mode1 = true) :
    Yields (doStatus s t op) (Spares may s) := by
  cases op with
  | none => exact yields_ok h
  | push => exact yields_ok h.after_pushStatus
  | pop => exact h.after_restoreStatus (hm rfl)

theorem after_waitHere (h : Spares may s t) : Yields (waitHere s t) (Spares may s) := yields_map fun _ => h.of_part rfl

theorem after_putBtf (h : Spares may s t) (b : Bool) : Spares may s (putBtf t b) := (h.of_sticky 0).of_part rfl

/-! The forms of an instruction. -/

theorem of_always {f : State → Res State} (hf : ∀ t, Spares may s t → Yields (f t) (Spares may s)) :
    Leads (always s f) (Spares may s) := leads_always fun t ht => hf t (of_sequenced may ht)

theorem of_stackInstr {f : State → Res State} (hf : ∀ t, Spares may s t → Yields (f t) (Spares may s)) :
    Leads (stackInstr s f) (Spares may s) := of_always fun t ht => yields_bind fun _ => hf t ht

theorem of_conditional {c : Cond} {skip : State → State} {f : State → Res State}
    (hskip : ∀ t, controlPart (skip t) = controlPart t)
    (hf : ∀ t, Spares may s t → Yields (f t) (Spares may s)) : Leads (conditional c s skip f) (Spares may s) :=
  leads_conditional (fun t ht => (of_sequenced may ht).of_part (hskip t)) fun t ht => hf t (of_sequenced may ht)

theorem of_branch {c : Cond} {db call : Bool} {k : Option Compute} {f : State → Res State}
    (hf : ∀ t, Spares may s t → Yields (f t) (Spares may s)) :
    Leads (branch c db call (slotEffect k s) s f) (Spares may s) :=
  leads_branch (fun _ ht => (of_sequenced may ht).after_untaken s db) fun _ ht => yields_bind fun _ =>
    hf _ ((of_sequenced may ht).after_applyEffect _)

end Spares

/-- What an instruction may change of the system registers outside a computation's flags: the one it names, and MODE1
and IMASKP where it restores the status stack or ends a routine. -/
def mayWrite (i : Instr) (n : Sreg) : Bool :=
  destOf i == some (.sys n) || (restoresStatus i && (n == .mode1 || n == .imaskp))

theorem mayWrite_of_dest {i : Instr} {d : Ureg} (hd : destOf i = some d) (n : Sreg) (hn : d = .sys n) :
    mayWrite i n = true := by simp [mayWrite, hd, hn]

theorem mayWrite_of_restores {i : Instr} (hi : restoresStatus i = true) :
    mayWrite i .mode1 = true ∧ mayWrite i .imaskp = true := by simp [mayWrite, hi]

/-- A computation alone; the encoder names which one the instruction is. -/
theorem alone_spares {i : Instr} {may : Sreg → Bool} (s : State)
    (h : ∃ c, i.fields = aloneFields c ∧ i = .ofCompute c) : Leads (exec i s) (Spares may s) := by
  obtain ⟨c, -, rfl⟩ := h
  rw [exec_ofCompute]
  exact Spares.of_always fun _ ht => ht.after_effect

theorem execIdle16_spares (may : Sreg → Bool) (s : State) : Leads (execIdle16 s) (Spares may s) := by
  unfold execIdle16
  split
  · exact Spares.of_always fun _ ht => ht.after_waitHere
  · exact fun _ h => by cases h

/-! The branches, each by what it does when taken. -/

section
variable (s : State) (cond : Cond) (db : Bool) (c : Option Compute)

theorem execJumpAbs_spares (addr : A24) (may : Sreg → Bool) : Leads (execJumpAbs cond addr db c s) (Spares may s) :=
  Spares.of_branch fun _ ht => ht.after_jumpTo _ _

theorem execJumpRel_spares (off : A24) (may : Sreg → Bool) : Leads (execJumpRel cond off db c s) (Spares may s) :=
  Spares.of_branch fun _ ht => ht.after_jumpTo _ _

theorem execJumpInd_spares (m i : Fin 8) (may : Sreg → Bool) : Leads (execJumpInd cond m i db c s) (Spares may s) :=
  Spares.of_branch fun _ ht => ht.after_jumpTo _ _

theorem execCallAbs_spares (addr : A24) (may : Sreg → Bool) : Leads (execCallAbs cond addr db c s) (Spares may s) :=
  Spares.of_branch fun _ ht => ht.after_callTo _ _

theorem execCallRel_spares (off : A24) (may : Sreg → Bool) : Leads (execCallRel cond off db c s) (Spares may s) :=
  Spares.of_branch fun _ ht => ht.after_callTo _ _

theorem execCallInd_spares (m i : Fin 8) (may : Sreg → Bool) : Leads (execCallInd cond m i db c s) (Spares may s) :=
  Spares.of_branch fun _ ht => ht.after_callTo _ _

theorem execRts_spares (may : Sreg → Bool) : Leads (execRts cond db c s) (Spares may s) :=
  Spares.of_branch fun _ ht => yields_bind fun _ => ht.after_returnTo _

theorem execRtsLr_spares (may : Sreg → Bool) : Leads (execRtsLr cond db c s) (Spares may s) :=
  Spares.of_branch fun _ ht => ht.after_returnTo _

theorem execRti_spares {may : Sreg → Bool} (h : may .mode1 = true ∧ may .imaskp = true) :
    Leads (execRti cond db c s) (Spares may s) :=
  Spares.of_branch fun _ ht => yields_bind fun _ => ht.after_returnInterrupt h.1 h.2 _

theorem execJumpLa_spares (target : Target) (ci : Bool) {may : Sreg → Bool} (h : ci = true → may .imaskp = true) :
    Leads (execJumpLa cond target db ci c s) (Spares may s) :=
  Spares.of_branch fun _ ht => (ht.after_abortLoop _).map fun _ hu => by
    cases ci
    · exact hu.after_goTo _ _ _
    · exact (hu.after_clearCurrent (h rfl)).after_goTo _ _ _

theorem execJumpCi_spares (target : Target) {may : Sreg → Bool} (h : may .imaskp = true) :
    Leads (execJumpCi cond target db c s) (Spares may s) :=
  Spares.of_branch fun _ ht => (ht.after_clearCurrent h).after_jumpTo _ _

end

/-- Every instruction that goes on spares the unselected banks and the control registers it may not write. -/
theorem exec_spares (i : Instr) (s : State) : Leads (exec i s) (Spares (mayWrite i) s) := by
  have same : ∀ t : State, controlPart (id t) = controlPart t := fun _ => rfl
  have unloaded : ∀ (d : Ureg) (t : State), controlPart (notLoaded d t) = controlPart t := fun _ _ => rfl
  cases i
  case uregMove =>
    exact leads_writing <| Spares.of_conditional same fun _ ht => yields_bind fun _ => ht.after_effect.bind fun _ hu =>
      hu.after_putUreg _ _ (mayWrite_of_dest rfl)
  case loadImm => exact leads_writing <| Spares.of_always fun _ ht => ht.after_putUreg _ _ (mayWrite_of_dest rfl)
  case ldDmPost =>
    exact leads_writing <| Spares.of_conditional (unloaded _) fun _ ht => yields_bind fun _ => yields_bind fun _ =>
      ht.after_effect.bind fun _ hu => (hu.after_putUreg _ _ (mayWrite_of_dest rfl)).map fun _ hw =>
        hw.after_updateDag1 _ _
  case ldPmPost =>
    exact leads_writing <| Spares.of_conditional (unloaded _) fun _ ht => yields_bind fun _ => yields_bind fun _ =>
      ht.after_effect.bind fun _ hu => (hu.after_putUreg _ _ (mayWrite_of_dest rfl)).map fun _ hw =>
        hw.after_updateDag2 _ _
  case ldDmPre | ldPmPre =>
    exact leads_writing <| Spares.of_conditional (unloaded _) fun _ ht => yields_bind fun _ =>
      ht.after_effect.bind fun _ hu => hu.after_putUreg _ _ (mayWrite_of_dest rfl)
  case ldDmAbs | ldPmAbs =>
    exact leads_writing <| Spares.of_always fun _ ht => yields_bind fun _ =>
      ht.after_putUreg _ _ (mayWrite_of_dest rfl)
  case stDmPost =>
    exact Spares.of_conditional same fun _ ht => yields_bind fun _ => ht.after_effect.bind fun _ hu =>
      (hu.after_writeWord _ _ _ _).map fun _ hw => hw.after_updateDag1 _ _
  case stPmPost =>
    exact Spares.of_conditional same fun _ ht => yields_bind fun _ => ht.after_effect.bind fun _ hu =>
      (hu.after_writeWord _ _ _ _).map fun _ hw => hw.after_updateDag2 _ _
  case stDmPre | stPmPre =>
    exact Spares.of_conditional same fun _ ht => yields_bind fun _ => ht.after_effect.bind fun _ hu =>
      hu.after_writeWord _ _ _ _
  case stDmAbs | stPmAbs =>
    exact Spares.of_always fun _ ht => yields_bind fun _ => ht.after_writeWord _ _ _ _
  case dualMove =>
    exact Spares.of_conditional same fun _ ht => yields_bind fun _ => yields_bind fun _ => yields_bind fun _ =>
      ht.after_effect.bind fun _ hu => (hu.after_sideStore _ _ _).bind fun _ hv =>
        (hv.after_sideStore _ _ _).map fun _ hw =>
          (((hw.after_sideWrite _ _).after_sideWrite _ _).after_updateDag1 _ _).after_updateDag2 _ _
  case compute => exact Spares.of_conditional same fun _ ht => ht.after_effect
  case jumpAbs => exact execJumpAbs_spares _ _ _ _ _ _
  case jumpRel => exact execJumpRel_spares _ _ _ _ _ _
  case jumpInd => exact execJumpInd_spares _ _ _ _ _ _ _
  case callAbs => exact execCallAbs_spares _ _ _ _ _ _
  case callRel => exact execCallRel_spares _ _ _ _ _ _
  case callInd => exact execCallInd_spares _ _ _ _ _ _ _
  case rts => exact execRts_spares _ _ _ _ _
  case rtsLr => exact execRtsLr_spares _ _ _ _ _
  case rti => exact execRti_spares _ _ _ _ (mayWrite_of_restores rfl)
  case jumpLa => exact execJumpLa_spares _ _ _ _ _ _ fun hci => (mayWrite_of_restores (by rw [hci]; rfl)).2
  case jumpCi => exact execJumpCi_spares _ _ _ _ _ (mayWrite_of_restores rfl).2
  case doAbs | doRel => exact Spares.of_always fun _ ht => ht.after_startLoop _ _
  case doCountImm => exact Spares.of_always fun _ ht => (ht.after_putLcntr s _).after_startLoop _ _
  case doCountUreg =>
    exact Spares.of_always fun _ ht => yields_bind fun _ => (ht.after_putLcntr s _).after_startLoop _ _
  case bitSet | bitClr | bitTgl =>
    exact Spares.of_always fun _ ht => ht.after_putSreg _ _ (mayWrite_of_dest rfl _ rfl)
  case bitTst | bitXor => exact Spares.of_always fun _ ht => yields_ok (ht.after_putBtf _)
  case pushLoop a b =>
    exact Spares.of_stackInstr fun _ ht =>
      (ht.after_pushLoops.after_doStatus fun ha => (mayWrite_of_restores (by rw [ha]; rfl)).1).bind fun _ hu =>
        hu.after_doPcStack _
  case popLoop a b =>
    exact Spares.of_stackInstr fun _ ht => ht.after_popLoops.bind fun _ hu =>
      (hu.after_doStatus fun ha => (mayWrite_of_restores (by rw [ha]; rfl)).1).bind fun _ hw => hw.after_doPcStack _
  case pushSts => exact Spares.of_stackInstr fun _ ht => ht.after_pushStatus.after_doPcStack _
  case popSts =>
    exact Spares.of_stackInstr fun _ ht =>
      (ht.after_restoreStatus (mayWrite_of_restores (i := .popSts _) rfl).1).bind fun _ hu => hu.after_doPcStack _
  case pushPcstk | popPcstk => exact Spares.of_stackInstr fun _ ht => ht.after_doPcStack _
  case idle16 => exact execIdle16_spares _ s
  case idle => exact Spares.of_always fun _ ht => ht.after_waitHere
  case nop => exact Spares.of_always fun _ ht => yields_ok ht
  -- what is left are the computations alone
  all_goals exact alone_spares s ⟨_, rfl, rfl⟩

/-- Settles O16: every operation of every instruction writes registers of the selected banks only. -/
theorem unselectedBankUntouched : Obligations.UnselectedBankUntouched :=
  ⟨fun s n => ⟨rfl, regIdx_val s n⟩, fun i s t h => (exec_spares i s t h).banks⟩

/-- Settles O18: an instruction that neither names a register nor restores the status spares it. -/
theorem controlBitsChangeOnlyExplicitly : Obligations.ControlBitsChangeOnlyExplicitly := by
  intro i s t h
  have spared := exec_spares i s t h
  have unnamed : ∀ n, destOf i ≠ some (.sys n) → n ≠ .mode1 ∧ n ≠ .imaskp ∨ restoresStatus i = false →
      mayWrite i n = false := by
    rintro n hd (⟨hm, hp⟩ | hr)
    · simp [mayWrite, hd, hm, hp]
    · simp [mayWrite, hd, hr]
  exact ⟨fun hd => spared.stky (unnamed _ hd (.inl (by decide))),
    fun hd => spared.imask (unnamed _ hd (.inl (by decide))),
    fun hd hr => spared.mode1 (unnamed _ hd (.inr hr)), fun hd hr => spared.imaskp (unnamed _ hd (.inr hr))⟩

/-! The buses (R106, R107, R404). -/

theorem low40_append (x : W40) (y : BitVec 8) : low40 (x ++ y) = x := by
  change BitVec.extractLsb' 8 40 (x ++ y) = x
  exact BitVec.extractLsb'_append_eq_left

theorem low32_bus32 (v : W32) : low32 (bus32 v) = v := by
  change BitVec.extractLsb' 16 32 (v ++ (0 : BitVec 16)) = v
  exact BitVec.extractLsb'_append_eq_left

theorem low32_busNarrow {w : Nat} (v : BitVec w) : low32 (busNarrow v) = v.setWidth 32 := low32_bus32 _

/-- PX is PX2 above PX1 (R404). -/
theorem px_parts (hi : W32) (lo : BitVec 16) :
    low32 (hi ++ lo) = hi ∧ BitVec.extractLsb' 0 16 (hi ++ lo : W48) = lo :=
  ⟨(show BitVec.extractLsb' 16 32 (hi ++ lo) = hi from BitVec.extractLsb'_append_eq_left),
    (show BitVec.extractLsb' 0 16 (hi ++ lo) = lo from BitVec.extractLsb'_append_eq_right)⟩

/-! Status registers with the bits that follow the inputs and the stacks (R50, R52). -/

theorem flagInMask_getLsbD {k : Nat} (hk : k < 32) : flagInMask.getLsbD k = decide (19 ≤ k ∧ k ≤ 22) := by
  decide +revert

theorem stackStatusMask_getLsbD {k : Nat} (hk : k < 32) :
    stackStatusMask.getLsbD k = decide (k = 21 ∨ k = 22 ∨ k = 24 ∨ k = 26) := by
  decide +revert

theorem withFlagIn_getLsbD (s : State) (v : W32) {k : Nat} (hk : k < 32) :
    (withFlagIn s v).getLsbD k = if 19 ≤ k ∧ k ≤ 22 then s.flagIn.getLsbD (k - 19) else v.getLsbD k := by
  simp only [withFlagIn, BitVec.getLsbD_or, BitVec.getLsbD_and, BitVec.getLsbD_not, flagInMask_getLsbD hk,
    BitVec.getLsbD_shiftLeft, BitVec.getLsbD_setWidth, hk, decide_true, Bool.true_and]
  split
  · next h => simp [h, show ¬ k < 19 by omega, show k - 19 < 32 by omega]
  · next h =>
    have out : k < 19 ∨ s.flagIn.getLsbD (k - 19) = false := by
      by_cases h19 : k < 19
      · exact .inl h19
      · exact .inr (BitVec.getLsbD_of_ge _ _ (by omega))
    rcases out with out | out <;> simp [h, out]

/-- Where each stack status bit stands. -/
theorem stackStatus_getLsbD (s : State) {k : Nat} (hk : k < 32) :
    (stackStatus s).getLsbD k =
      ((decide (k = 21) && decide (29 ≤ (readPcstkp s).toNat)) || (decide (k = 22) && decide (readPcstkp s = 0)) ||
        (decide (k = 24) && s.sts.isEmpty) || (decide (k = 26) && decide (s.lsp.val = 0))) := by
  have bit : ∀ (b : Bool) (m : W32) (n : Nat), (∀ j < 32, m.getLsbD j = decide (j = n)) →
      (if b = true then m else 0).getLsbD k = (decide (k = n) && b) := fun b m n hm => by
    cases b
    · simp
    · simp [hm k hk]
  have h21 := bit (decide (29 ≤ (readPcstkp s).toNat)) 0x00200000 21 (by decide)
  have h22 := bit (decide (readPcstkp s = 0)) 0x00400000 22 (by decide)
  have h24 := bit s.sts.isEmpty 0x01000000 24 (by decide)
  have h26 := bit (decide (s.lsp.val = 0)) 0x04000000 26 (by decide)
  simp only [decide_eq_true_eq] at h21 h22 h26
  simp only [stackStatus, BitVec.getLsbD_or, h21, h22, h24, h26]

theorem withStackStatus_getLsbD (s : State) (v : W32) {k : Nat} (hk : k < 32) :
    (withStackStatus s v).getLsbD k =
      if k = 21 ∨ k = 22 ∨ k = 24 ∨ k = 26 then (stackStatus s).getLsbD k else v.getLsbD k := by
  simp only [withStackStatus, BitVec.getLsbD_or, BitVec.getLsbD_and, BitVec.getLsbD_not, stackStatusMask_getLsbD hk, hk,
    decide_true, Bool.true_and]
  split
  · next h => simp [h]
  · next h =>
    obtain ⟨h21, h22, h24, h26⟩ : k ≠ 21 ∧ k ≠ 22 ∧ k ≠ 24 ∧ k ≠ 26 := by omega
    simp [stackStatus_getLsbD s hk, h21, h22, h24, h26]

theorem withStackStatus_stack_bit (s : State) (v : W32) {k : Nat} (hk : k = 21 ∨ k = 22 ∨ k = 24 ∨ k = 26) :
    (withStackStatus s v).getLsbD k = (stackStatus s).getLsbD k := by
  rw [withStackStatus_getLsbD s v (by omega), if_pos hk]

/-- PCFL, PCEM, SSEM and LSEM. -/
theorem stackStatus_bits (s : State) :
    (stackStatus s).getLsbD 21 = decide (29 ≤ (readPcstkp s).toNat) ∧
      (stackStatus s).getLsbD 22 = decide (readPcstkp s = 0) ∧ (stackStatus s).getLsbD 24 = s.sts.isEmpty ∧
      (stackStatus s).getLsbD 26 = decide (s.lsp.val = 0) := by
  refine ⟨?_, ?_, ?_, ?_⟩ <;> rw [stackStatus_getLsbD s (by decide)] <;> simp

/-- An explicit write does not store the bits of a mask. -/
theorem and_not_getLsbD (v m : W32) {k : Nat} (hk : k < 32) :
    (v &&& ~~~m).getLsbD k = (v.getLsbD k && !m.getLsbD k) := by
  simp only [BitVec.getLsbD_and, BitVec.getLsbD_not, hk, decide_true, Bool.true_and]

/-! What a read of each universal register gives (R32 to R60). -/

theorem dagIdx_val (s : State) (high low : Nat) (n : Fin 8) :
    (dagIdx s high low n).val =
      n.val + if bitOf (effMode1 s) (if n.val < 4 then low else high) = true then 8 else 0 := by
  unfold dagIdx
  generalize (if n.val < 4 then low else high) = k
  cases bitOf (effMode1 s) k <;> rfl

/-- Outside a short loop's body the loop registers give the top of the loop stacks. -/
theorem readCurlcntr_of_loopTop {s : State} {l : Level} (hl : loopTop s = some l) (h : inShortBody s = false) :
    readCurlcntr s = l.count := by simp [readCurlcntr, h, curlcntr, hl]

theorem readLaddr_of_level {s : State} {k : Fin 6} (hk : k.val + 1 = s.lsp.val) (h : inShortBody s = false) :
    readLaddr s = s.las.get k := by
  have level : s.lsp.val - 1 = k.val := by omega
  simp [readLaddr, h, show 0 < s.lsp.val by omega, level]

/-- All but PX and the data registers come in bits 47 to 16 of the bus. -/
theorem readUreg_narrow (s : State) {u : Ureg} (hpx : u ≠ .px) (hr : ∀ n, u ≠ .r n) :
    ∃ w, readUreg s u = bus32 w := by
  cases u
  case r n => exact absurd rfl (hr n)
  case px => exact absurd rfl hpx
  all_goals exact ⟨_, rfl⟩

/-- Right after a write a register reads the old or the new value (R595). -/
theorem effective_of_lookup {s : State} {r : Sreg} {cur old : W32} {d : DrawTag} (h : s.latent.lookup r = some old) :
    effective s r cur d = old ∨ effective s r cur d = cur := by
  unfold effective
  rw [h]
  cases drawBool d s <;> simp

theorem readPcstkp_of_latent {s : State} {old : BitVec 5} (h : s.latentPcstkp = some old) :
    readPcstkp s = old ∨ readPcstkp s = s.pcstkp := by
  unfold readPcstkp
  rw [h]
  cases drawBool .pcstkpRead s <;> simp

theorem readPcstkp_of_none {s : State} (h : s.latentPcstkp = none) : readPcstkp s = s.pcstkp := by
  simp [readPcstkp, h]

/-- Settles O50: each read is its register's own word, and the status bits are taken one by one. -/
theorem registerReadsFollowMachine : Obligations.RegisterReadsFollowMachine := by
  intro s
  have narrow : ∀ {w : Nat} (v : BitVec w), low32 (busNarrow v) = v.setWidth 32 := low32_busNarrow
  have word : ∀ v : W32, low32 (busNarrow v) = v := fun v => (narrow v).trans (BitVec.setWidth_eq v)
  have stky : low32 (readUreg s (.sys .stky)) = withStackStatus s s.stky := word _
  have astat : low32 (readUreg s (.sys .astat)) = withFlagIn s s.astat := word _
  obtain ⟨hpcfl, hpcem, hssem, hlsem⟩ := stackStatus_bits s
  refine ⟨narrow _, fun hs => ⟨?_, ?_⟩, fun a ha hb => ?_, fun h => ?_, fun hl hb => ⟨?_, ?_⟩, fun l hl hb => ?_,
    fun hl hb => ?_, ⟨fun h => ?_, ?_, ?_⟩, fun n hn => ?_, fun _ => rfl, rfl, fun u hpx hr => ?_, narrow _, word _,
    word _, word _, word _, word _, word _, word _, word _, word _, fun h => ?_, fun old h => ?_, fun old h => ?_,
    fun n hn hout => ?_, fun n hn h21 h22 h24 h26 => ?_, fun k hk hb => ?_,
    fun k n => ⟨word _, narrow _, dagIdx_val s 3 4 n, dagIdx_val s 5 6 n⟩⟩
  · exact (narrow _).trans (by rw [hs]; rfl)
  · exact (narrow _).trans (by rw [hs]; rfl)
  · exact (narrow _).trans (by simp [readPcstk, hb, ha])
  · exact (narrow _).trans (by rw [readPcstkp_of_none h])
  · exact (word _).trans (by simp [readLaddr, hb, hl])
  · exact (word _).trans (by simp [readCurlcntr, hb, curlcntr, loopTop_of_no_loop hl])
  · exact (word _).trans (readCurlcntr_of_loopTop hl hb)
  · exact (word _).trans (by simp [readLcntr, hb, Nat.ne_of_lt hl])
  · rw [stky, withStackStatus_stack_bit s _ (by decide), withStackStatus_stack_bit s _ (by decide), hpcfl, hpcem,
      readPcstkp_of_none h]
    exact ⟨rfl, rfl⟩
  · rw [stky, withStackStatus_stack_bit s _ (by decide), hssem]
    cases s.sts <;> rfl
  · rw [stky, withStackStatus_stack_bit s _ (by decide), hlsem]
  · rw [astat, withFlagIn_getLsbD s _ (by omega), if_pos (by omega), Nat.add_sub_cancel_left]
  · obtain ⟨w, hw⟩ := readUreg_narrow s hpx hr
    rw [hw, low32_bus32]
  · exact (word _).trans (by simp [readSreg, readImaskp, effective, h])
  · rw [show low32 (readUreg s (.sys .imaskp)) = readImaskp s from word _]
    exact effective_of_lookup h
  · rw [show low32 (readUreg s .pcstkp) = (readPcstkp s).setWidth 32 from narrow _]
    exact (readPcstkp_of_latent h).imp (congrArg _) (congrArg _)
  · rw [astat, withFlagIn_getLsbD s _ hn, if_neg hout]
  · rw [stky, withStackStatus_getLsbD s _ hn, if_neg (by omega)]
  · exact (word _).trans (readLaddr_of_level hk hb)

/-! What a write of each universal register lands in (R34 to R40, R400, R402, R404, R593). -/

theorem dagFile_set {w : Nat} (d : DagFile w) (p j : Fin 16) (v : BitVec w) (k' : DagKind) :
    (dagFile { d with i := d.i.set p.val v p.isLt } k').get j =
        (if k' = .i ∧ j = p then v else (dagFile d k').get j) ∧
      (dagFile { d with m := d.m.set p.val v p.isLt } k').get j =
        (if k' = .m ∧ j = p then v else (dagFile d k').get j) ∧
      (dagFile { d with l := d.l.set p.val v p.isLt } k').get j =
        (if k' = .l ∧ j = p then v else (dagFile d k').get j) ∧
      (dagFile { d with b := d.b.set p.val v p.isLt, i := d.i.set p.val v p.isLt } k').get j =
        (if (k' = .b ∨ k' = .i) ∧ j = p then v else (dagFile d k').get j) := by
  cases k' <;> simp [dagFile, get_set, Fin.ext_iff, eq_comm]

/-- A write of one register of a generator; one of B also loads I (R400). -/
theorem putDag1_get (s t : State) (k : DagKind) (n : Fin 8) (v : W32) (k' : DagKind) (j : Fin 16) :
    (dagFile (putDag1 s t k n v).dag1 k').get j =
      if (k' = k ∨ k = .b ∧ k' = .i) ∧ j = dag1Idx s n then v else (dagFile t.dag1 k').get j := by
  obtain ⟨hi, hm, hl, hb⟩ := dagFile_set t.dag1 (dag1Idx s n) j v k'
  cases k
  · simpa [putDag1] using hi
  · simpa [putDag1] using hm
  · simpa [putDag1] using hl
  · simpa [putDag1] using hb

theorem putDag2_get (s t : State) (k : DagKind) (n : Fin 8) (v : A24) (k' : DagKind) (j : Fin 16) :
    (dagFile (putDag2 s t k n v).dag2 k').get j =
      if (k' = k ∨ k = .b ∧ k' = .i) ∧ j = dag2Idx s n then v else (dagFile t.dag2 k').get j := by
  obtain ⟨hi, hm, hl, hb⟩ := dagFile_set t.dag2 (dag2Idx s n) j v k'
  cases k
  · simpa [putDag2] using hi
  · simpa [putDag2] using hm
  · simpa [putDag2] using hl
  · simpa [putDag2] using hb

/-- A write of IRPTL that answers sets no reserved bit, and none of a routine in service (R518, R519). -/
theorem putSreg_irptl_ok {s t u : State} {v : W32} (h : putSreg s t .irptl v = .ok u) :
    v &&& irptlReserved = 0 ∧ u = { t with irptl := v &&& ~~~t.imaskp, latent := (.irptl, s.irptl) :: t.latent } := by
  simp only [putSreg] at h
  split at h
  · next free =>
    cases h
    exact ⟨free, rfl⟩
  · cases h

theorem setCount_get (t : State) (i : Nat) (v : W32) (k : Fin 7) :
    (setCount t i v).lcs.get k = if i = k.val then v else t.lcs.get k := by
  unfold setCount
  split
  · next h => exact get_set _ _ h _
  · next h => rw [if_neg (by omega)]

theorem putPcstk_ok {s t u : State} {a : A24} (h : putPcstk s t a = .ok u) :
    u = { t with pcs := u.pcs, endCalls := u.endCalls } ∧
      ∀ k : Fin 30, (k.val + 1 ≠ s.pcstkp.toNat → u.pcs.get k = t.pcs.get k ∧ u.endCalls.get k = t.endCalls.get k) ∧
        (k.val + 1 = s.pcstkp.toNat → u.pcs.get k = a ∧ u.endCalls.get k = (t.endCalls.get k && t.pcs.get k == a)) := by
  obtain ⟨_, _, h⟩ := bind_ok.1 h
  split at h
  · next held =>
    cases h
    refine ⟨rfl, fun k => ⟨fun hk => ?_, fun hk => ?_⟩⟩
    · simp only [get_set, if_neg (show s.pcstkp.toNat - 1 ≠ k.val by omega), and_self]
    · have top : s.pcstkp.toNat - 1 = k.val := by omega
      simp only [get_set, top, if_true, true_and]
      rfl
  · next held =>
    cases h
    exact ⟨rfl, fun k => ⟨fun _ => ⟨rfl, rfl⟩, fun hk => absurd k.isLt (by omega)⟩⟩

theorem putPcstkp_ok {s t u : State} {v : BitVec 5} (h : putPcstkp s t v = .ok u) :
    u = { t with pcstkp := u.pcstkp, latentPcstkp := u.latentPcstkp } ∧ (readPcstkp s = 31 → u = t) ∧
      (readPcstkp s ≠ 31 → u.pcstkp = v ∧ u.latentPcstkp = some s.pcstkp) := by
  unfold putPcstkp at h
  split at h
  · next full =>
    cases h
    exact ⟨rfl, fun _ => rfl, fun hne => absurd full hne⟩
  · next room =>
    split at h
    · cases h
      exact ⟨rfl, fun full => absurd full room, fun _ => ⟨rfl, rfl⟩⟩
    · cases h

theorem putLaddr_frame (s t : State) (v : W32) :
    putLaddr s t v = { t with las := (putLaddr s t v).las, lens := (putLaddr s t v).lens } := by
  unfold putLaddr
  split <;> rfl

theorem putLaddr_get (s t : State) (v : W32) (k : Fin 6) :
    (putLaddr s t v).las.get k = (if k.val + 1 = s.lsp.val then v else t.las.get k) ∧
      (putLaddr s t v).lens.get k = if k.val + 1 = s.lsp.val then 0 else t.lens.get k := by
  unfold putLaddr
  split
  · next h =>
    have top : s.lsp.val - 1 = k.val ↔ k.val + 1 = s.lsp.val := by omega
    simp only [get_set, top, and_self]
  · next h =>
    have none : ¬ k.val + 1 = s.lsp.val := by omega
    simp only [none, if_false, and_self]

theorem putLcntr_frame (s t : State) (v : W32) : putLcntr s t v = { t with lcs := (putLcntr s t v).lcs } := by
  unfold putLcntr
  split
  · exact setCount_frame _ _ _
  · rfl

theorem putLcntr_get (s t : State) (v : W32) (k : Fin 7) :
    (putLcntr s t v).lcs.get k = if k = s.lsp ∧ s.lsp.val < 6 then v else t.lcs.get k := by
  unfold putLcntr
  split
  · next h => simp only [setCount_get, Fin.ext_iff, h, and_true, eq_comm]
  · next h => rw [if_neg fun hk => h hk.2]

theorem putCurlcntr_frame (s t : State) (v : W32) (mem : Bool) :
    putCurlcntr s t v mem = { t with lcs := (putCurlcntr s t v mem).lcs, counterLoaded := mem } := by
  unfold putCurlcntr
  dsimp only
  split
  · rfl
  · split
    · rfl
    · split
      · rw [setCount_frame]
      · rw [setCount_frame]

/-- A write of CURLCNTR reaches the innermost loop's count only, and that when it is counter-based and not at its
test. -/
theorem putCurlcntr_get (s t : State) (v : W32) (mem : Bool) (k : Fin 7) :
    (k.val + 1 ≠ s.lsp.val → (putCurlcntr s t v mem).lcs.get k = t.lcs.get k) ∧
      ∀ l, loopTop s = some l → k.val + 1 = s.lsp.val →
        (l.kind = 0 → (putCurlcntr s t v mem).lcs.get k = t.lcs.get k) ∧
        (l.kind ≠ 0 → countsHere s l = false → (putCurlcntr s t v mem).lcs.get k = v) := by
  cases hl : loopTop s with
  | none => simp [putCurlcntr, hl]
  | some l =>
    have active := lsp_pos_of_loopTop hl
    have other : k.val + 1 ≠ s.lsp.val → ¬ s.lsp.val - 1 = k.val := by omega
    simp only [putCurlcntr, hl, Option.some.injEq, forall_eq']
    refine ⟨fun hk => ?_, fun hk => ⟨fun h0 => ?_, fun h0 hc => ?_⟩⟩
    · split
      · rfl
      · split
        · rw [setCount_get, if_neg (other hk)]
        · rw [setCount_get, if_neg (other hk)]
    · rw [if_pos h0]
    · rw [if_neg h0, hc, if_neg Bool.false_ne_true, setCount_get, if_pos (by omega)]

/-- Which bits an IRPTL write may set (R151, R519). -/
theorem unreserved_of_getLsbD {v : W32} (h : v &&& irptlReserved = 0) {k : Nat} (hk : v.getLsbD k = true) :
    k ≠ 0 ∧ k ≠ 1 ∧ k ≠ 2 ∧ k ≠ 9 := by
  have free : irptlReserved.getLsbD k = false := by
    have := congrArg (BitVec.getLsbD · k) h
    simpa [hk] using this
  refine ⟨?_, ?_, ?_, ?_⟩ <;> rintro rfl <;> revert free <;> decide

/-- The bits that follow the inputs and the stacks read the same whether stored or not. -/
theorem withFlagIn_stored (s : State) (v : W32) : withFlagIn s (v &&& ~~~flagInMask) = withFlagIn s v := by
  rw [withFlagIn, BitVec.and_assoc, BitVec.and_self]
  rfl

theorem withStackStatus_stored (s : State) (v : W32) :
    withStackStatus s (v &&& ~~~stackStatusMask) = withStackStatus s v := by
  rw [withStackStatus, BitVec.and_assoc, BitVec.and_self]
  rfl

theorem bne_eq_decide_ne (src : Source) : (src != .register) = decide (src ≠ .register) := by
  cases src <;> rfl

/-- Settles O49: each register's own write, one by one. -/
theorem registerWriteLands : Obligations.RegisterWriteLands := by
  intro s t u dst v src h
  cases dst
  case r n =>
    cases h
    refine ⟨rfl, (putReg_get s t n _ _).trans (if_pos rfl), fun k hk => ?_⟩
    rw [putReg_get, if_neg (hk n (List.mem_singleton_self n))]
  case dag1 k n =>
    cases h
    refine ⟨putDag1_frame _ _ _ _ _, ?_, fun hb => ?_, fun k' j hj => ?_⟩
    · rw [putDag1_get, if_pos (by simp)]
    · exact (putDag1_get s t k n _ .i _).trans (if_pos (by simp [hb]))
    · rw [putDag1_get, if_neg (by tauto)]
  case dag2 k n =>
    cases h
    refine ⟨putDag2_frame _ _ _ _ _, ?_, fun hb => ?_, fun k' j hj => ?_⟩
    · rw [putDag2_get, if_pos (by simp)]
    · exact (putDag2_get s t k n _ .i _).trans (if_pos (by simp [hb]))
    · rw [putDag2_get, if_neg (by tauto)]
  case px =>
    cases h
    refine ⟨rfl, ?_, fun hs => if_pos hs⟩
    simp only [putPx]
    split
    · rfl
    · exact low40_append _ _
  case px1 =>
    cases h
    obtain ⟨hhi, hlo⟩ := px_parts (t.px.extractLsb' 16 32) ((low32 v).setWidth 16)
    exact ⟨rfl, hlo, hhi⟩
  case px2 =>
    cases h
    obtain ⟨hhi, hlo⟩ := px_parts (low32 v) (t.px.extractLsb' 0 16)
    exact ⟨rfl, hhi, hlo⟩
  case faddr | daddr | pc => cases h
  case pcstk => exact putPcstk_ok h
  case pcstkp => exact putPcstkp_ok h
  case laddr =>
    cases h
    exact ⟨putLaddr_frame _ _ _, putLaddr_get _ _ _⟩
  case curlcntr =>
    cases h
    refine ⟨?_, putCurlcntr_get _ _ _ _⟩
    rw [← bne_eq_decide_ne]
    exact putCurlcntr_frame _ _ _ _
  case lcntr =>
    cases h
    exact ⟨putLcntr_frame _ _ _, putLcntr_get _ _ _⟩
  case tcount | tperiod =>
    cases h
    rfl
  case sys r =>
    cases r
    case irptl =>
      obtain ⟨free, rfl⟩ := putSreg_irptl_ok h
      exact ⟨rfl, fun k hk => ⟨and_not_getLsbD _ _ hk, unreserved_of_getLsbD free⟩⟩
    case imaskp =>
      cases h
      exact ⟨rfl, fun k hk => and_not_getLsbD _ _ hk⟩
    case astat =>
      cases h
      refine ⟨rfl, fun k hk => ?_⟩
      exact (congrArg (BitVec.getLsbD · k) (withFlagIn_stored _ _)).trans (withFlagIn_getLsbD _ _ hk)
    case stky =>
      cases h
      refine ⟨rfl, fun k hk h21 h22 h24 h26 => ?_⟩
      refine (congrArg (BitVec.getLsbD · k) (withStackStatus_stored _ _)).trans ?_
      exact (withStackStatus_getLsbD _ _ hk).trans (if_neg (by omega))
    case mode1 | mode2 | imask | ustat1 | ustat2 =>
      cases h
      rfl

/-! A push on the PC stack (R35, R36). -/

/-- With room the address goes on top; the entry is no longer marked as a CALL's. -/
theorem pushPc_of_room {s : State} (h : s.pcstkp.toNat < 30) (a : A24) :
    pushPc s a = { s with
      pcs := s.pcs.set s.pcstkp.toNat a h, endCalls := s.endCalls.set s.pcstkp.toNat false h, pcstkp := s.pcstkp + 1
      irptl := (pushPc s a).irptl } := by
  unfold pushPc
  rw [dif_pos h]
  dsimp only
  split <;> rfl

theorem pushPc_of_full {s : State} (h : 30 ≤ s.pcstkp.toNat) (a : A24) :
    pushPc s a = { s with pcstkp := 31, irptl := (pushPc s a).irptl } := by
  unfold pushPc
  rw [dif_neg (by omega)]
  split
  · rfl
  · next h30 =>
    have h31 : s.pcstkp = 31 := by bv_omega
    rw [← h31]

/-- The 29th entry and the overflow request SOVFI, dropped while its routine is in service. -/
theorem pushPc_irptl (s : State) (a : A24) :
    (pushPc s a).irptl =
      if s.pcstkp = 28 ∨ s.pcstkp = 30 then s.irptl ||| (0x00000008 &&& ~~~s.imaskp) else s.irptl := by
  unfold pushPc
  split
  · next h =>
    have not30 : s.pcstkp ≠ 30 := by bv_omega
    dsimp only
    split
    · next h28 => rw [if_pos (.inl h28)]; rfl
    · next h28 => rw [if_neg (not_or.2 ⟨h28, not30⟩)]
  · next h =>
    have not28 : s.pcstkp ≠ 28 := by bv_omega
    split
    · next h30 => rw [if_pos (.inr h30)]; rfl
    · next h30 => rw [if_neg (not_or.2 ⟨not28, h30⟩)]

theorem pcTop_of_pushPc {s : State} (h : s.pcstkp.toNat < 30) (a : A24) : pcTop (pushPc s a) = some a := by
  have next : (s.pcstkp + 1).toNat = s.pcstkp.toNat + 1 := by bv_omega
  rw [pushPc_of_room h]
  simp only [pcTop, pcEntry, next]
  rw [dif_pos ⟨by omega, by omega⟩]
  simp [get_set]

/-- A push on the PC stack leaves the loop stacks, and does not look at them. -/
theorem pushPc_loops {t w : State} (hw : w = { t with las := w.las, lens := w.lens, lsp := w.lsp, lcs := w.lcs })
    (a : A24) :
    pushPc w a = { pushPc t a with las := w.las, lens := w.lens, lsp := w.lsp, lcs := w.lcs } := by
  generalize w.las = las, w.lens = lens, w.lsp = lsp, w.lcs = lcs at hw
  subst hw
  unfold pushPc
  split
  · dsimp only
    split <;> rfl
  · dsimp only
    split <;> rfl

/-! Starting a loop (R37, R41, R441, R442). -/

theorem condCode_lt (c : Cond) : c.code < 32 := by
  cases c <;> decide

/-- The word of the loop address stack gives back the loop it was made of (R37). -/
theorem levelOf_levelWord (e : A24) (term : Cond) {kind : Nat} (hk : kind < 4) (count : W32) (len : Nat) :
    levelOf (levelWord e term kind) count len = ⟨e, Cond.ofCode term.code, kind, count, len⟩ := by
  have value : (levelWord e term kind).toNat = kind * 2 ^ 30 + term.code * 2 ^ 24 + e.toNat := by
    have joined : (levelWord e term kind).toNat =
        (((BitVec.ofNat 2 kind).toNat * 2 ^ 1 + (0 : BitVec 1).toNat) * 2 ^ 5 + (BitVec.ofNat 5 term.code).toNat) *
          2 ^ 24 + e.toNat := by
      simp only [levelWord, ← toNat_append_eq_add]
    have hc := condCode_lt term
    have reserved : (0 : BitVec 1).toNat = 0 := rfl
    simp only [joined, reserved, BitVec.toNat_ofNat]
    omega
  have hc := condCode_lt term
  have he := e.isLt
  have hend : (levelWord e term kind).extractLsb' 0 24 = e := by
    apply BitVec.eq_of_toNat_eq
    rw [BitVec.extractLsb'_toNat, value, Nat.shiftRight_zero]
    omega
  have hterm : ((levelWord e term kind).extractLsb' 24 5).toNat = term.code := by
    rw [BitVec.extractLsb'_toNat, value, Nat.shiftRight_eq_div_pow]
    omega
  have hkind : ((levelWord e term kind).extractLsb' 30 2).toNat = kind := by
    rw [BitVec.extractLsb'_toNat, value, Nat.shiftRight_eq_div_pow]
    omega
  rw [levelOf, hend, hterm, hkind]

theorem branchFree_iff {s : State} : branchFree s = true ↔ inSlot s = false ∧ atLoopEnd s = false := by
  simp [branchFree]

/-- Where a branch may stand the sequencer only moves past the instruction. -/
theorem sequenced_of_branchFree {s : State} (h : branchFree s = true) :
    sequenced s = .ok (advance s s (s.pc + 1) false) := by
  obtain ⟨-, away⟩ := branchFree_iff.1 h
  rw [atLoopEnd, Bool.or_eq_false_iff] at away
  exact sequenced_of_offLoopEnds (offLoopEnds_of_atInnerEnd away.1)

theorem startLoop_answers {s : State} {e : A24} (hb : branchFree s = true) (ha : endsApart s e = true)
    (hp : s.latentPcstkp = none) (t : State) (term : Cond) :
    startLoop s t e term = .ok (pushPc (pushLoop s t (levelWord e term (loopKind (e - s.pc) term))
      (loopLength (e - s.pc)) (term == .lce)) (s.pc + 1)) := by
  obtain ⟨slot, away⟩ := branchFree_iff.1 hb
  simp [startLoop, notInSlot, slot, away, ha, pcStackFree, hp]

/-- The length of a new loop, 3 standing for three and more (R441). -/
def startLength (s : State) (e : A24) : Nat := if e - s.pc = 1 then 1 else if e - s.pc = 2 then 2 else 3

theorem loopLength_val (s : State) (e : A24) : (loopLength (e - s.pc)).val = startLength s e := by
  unfold loopLength startLength
  split
  · rfl
  · split <;> rfl

theorem loopKind_lt (s : State) (e : A24) (term : Cond) : loopKind (e - s.pc) term < 4 := by
  unfold loopKind
  split_ifs <;> omega

/-- The loop that `s` starts has become the top of `u`'s loop stacks with the count `count`, over `t`. -/
structure LoopStarted (s t u : State) (e : A24) (term : Cond) (count n : W32) : Prop where
  frame : u = { pushPc t (s.pc + 1) with las := u.las, lens := u.lens, lsp := u.lsp, lcs := u.lcs }
  lsp : u.lsp.val = s.lsp.val + 1
  top : loopTop u =
    some ⟨e, Cond.ofCode term.code, if term = .lce then startLength s e else 0, n, startLength s e⟩
  count : term = .lce → n = count
  addresses : ∀ k : Fin 6, k.val ≠ s.lsp.val → u.las.get k = s.las.get k ∧ u.lens.get k = s.lens.get k
  counts : ∀ k : Fin 7, k.val ≠ s.lsp.val → u.lcs.get k = s.lcs.get k

theorem pushLoop_of_room {t : State} (h : t.lsp.val < 6) (s : State) (w : W32) (len : Fin 4) (counted : Bool) :
    pushLoop s t w len counted = { t with
      las := t.las.set t.lsp.val w h, lens := t.lens.set t.lsp.val len h
      lcs := if counted then t.lcs else t.lcs.set t.lsp.val (drawBits 32 .plainCount s) (by omega)
      lsp := ⟨t.lsp.val + 1, by omega⟩ } := dif_pos h

theorem pushLoop_of_full {t : State} (h : t.lsp.val = 6) (s : State) (w : W32) (len : Fin 4) (counted : Bool) :
    pushLoop s t w len counted = loopOverflow t := dif_neg (by omega)

theorem loopTop_of_lsp {s : State} (k : Fin 6) (h : s.lsp.val = k.val + 1) : loopTop s = some (levelAt s k) := by
  simp [loopTop, h]

/-- A push of a loop with room, `w` being the sequenced state `t` with LCNTR written. -/
theorem loopStarted_of_room {s t w : State} (e : A24) (term : Cond) {count : W32} (hl : s.lsp.val < 6)
    (ht : t.las = s.las ∧ t.lens = s.lens ∧ t.lsp = s.lsp) (hw : w = { t with lcs := w.lcs })
    (hcount : w.lcs.get s.lsp = count) (hcounts : ∀ k : Fin 7, k.val ≠ s.lsp.val → w.lcs.get k = s.lcs.get k) :
    ∃ n, LoopStarted s t (pushPc (pushLoop s w (levelWord e term (loopKind (e - s.pc) term)) (loopLength (e - s.pc))
      (term == .lce)) (s.pc + 1)) e term count n := by
  have same : w.las = s.las ∧ w.lens = s.lens ∧ w.lsp = s.lsp := by rw [hw]; exact ht
  obtain ⟨hlas, hlens, hlsp⟩ := same
  have pushed := pushLoop_of_room (hlsp ▸ hl) s (levelWord e term (loopKind (e - s.pc) term)) (loopLength (e - s.pc))
    (term == .lce)
  generalize pushLoop s w (levelWord e term (loopKind (e - s.pc) term)) (loopLength (e - s.pc)) (term == .lce) = v
    at pushed ⊢
  have vlsp : v.lsp.val = s.lsp.val + 1 := by rw [pushed]; exact congrArg (·.val + 1) hlsp
  have rest : ∀ las lens lsp lcs, { w with las := las, lens := lens, lsp := lsp, lcs := lcs } =
      { t with las := las, lens := lens, lsp := lsp, lcs := lcs } := fun _ _ _ _ => by rw [hw]
  rw [pushPc_loops (t := t) (w := v) (by rw [pushed]; exact rest _ _ _ _)]
  refine ⟨v.lcs.get s.lsp, rfl, vlsp, ?_, ?_, fun k hk => ?_, fun k hk => ?_⟩
  · refine (loopTop_of_lsp ⟨s.lsp.val, hl⟩ vlsp).trans ?_
    have address : v.las.get ⟨s.lsp.val, hl⟩ = levelWord e term (loopKind (e - s.pc) term) := by
      simp only [pushed, get_set, hlsp, if_true]
    have length : v.lens.get ⟨s.lsp.val, hl⟩ = loopLength (e - s.pc) := by
      simp only [pushed, get_set, hlsp, if_true]
    simp only [levelAt, address, length, levelOf_levelWord e term (loopKind_lt s e term), loopLength_val]
    rfl
  · rintro rfl
    rw [pushed]
    exact hcount
  · simp only [pushed, get_set, hlsp, if_neg (Ne.symm hk), hlas, hlens, and_self]
  · rw [← hcounts k hk]
    simp only [pushed]
    split
    · rfl
    · simp only [get_set, hlsp, if_neg (Ne.symm hk)]

/-- An instruction that, beside what it makes of LCNTR, only starts a loop. -/
theorem loop_starts {i : Instr} {s : State} {e : A24} {term : Cond} {count : W32} {load : State → State}
    (hi : exec i s = always s fun t => startLoop s (load t) e term) (hb : branchFree s = true)
    (ha : endsApart s e = true) (hp : s.latentPcstkp = none) (hl : s.lsp.val < 6)
    (hload : ∀ t, load t = { t with lcs := (load t).lcs })
    (hcount : ∀ t, t.lcs = s.lcs → (load t).lcs.get s.lsp = count)
    (hcounts : ∀ t, t.lcs = s.lcs → ∀ k : Fin 7, k.val ≠ s.lsp.val → (load t).lcs.get k = s.lcs.get k) :
    ∃ t u n, sequenced s = .ok t ∧ exec i s = .next u ∧ LoopStarted s t u e term count n := by
  have moved := sequenced_of_branchFree hb
  obtain ⟨n, started⟩ := loopStarted_of_room (t := advance s s (s.pc + 1) false) e term hl ⟨rfl, rfl, rfl⟩ (hload _)
    (hcount _ rfl) (hcounts _ rfl)
  exact ⟨_, _, n, moved, by rw [hi, always_next]; exact ⟨_, moved, startLoop_answers hb ha hp _ _⟩, started⟩

theorem takeUreg_of_givesRead {s : State} {u : Ureg} (h : givesRead s u = true) :
    takeUreg s u = .ok (readUreg s u) := by
  unfold takeUreg
  split
  · next hu =>
    have free : s.latentPcstkp = none := by simpa [givesRead, hu] using h
    simp [pcStackFree, free]
  · rfl

theorem always_congr {s : State} {f g : State → Res State} (h : ∀ t, f t = g t) : always s f = always s g := by
  rw [funext h]

/-- A push on full stacks, on a state with the same latch, sticky flags and mask pointer as `s`. -/
theorem overflow_eq {s t : State} (ht : t.stky = s.stky ∧ t.irptl = s.irptl ∧ t.imaskp = s.imaskp) (k : Nat) :
    latch 3 { t with stky := t.stky ||| bitMask k } =
      { t with stky := s.stky ||| bitMask k, irptl := s.irptl ||| (0x00000008 &&& ~~~s.imaskp) } := by
  obtain ⟨hstky, hirptl, himaskp⟩ := ht
  rw [← hstky, ← hirptl, ← himaskp]
  rfl

/-- On full loop stacks the loop is lost (R41). -/
theorem startLoop_of_full {s t : State} {e : A24} (hb : branchFree s = true) (ha : endsApart s e = true)
    (hp : s.latentPcstkp = none) (hl : t.lsp.val = 6)
    (ht : t.stky = s.stky ∧ t.irptl = s.irptl ∧ t.imaskp = s.imaskp) (term : Cond) :
    startLoop s t e term = .ok (pushPc { t with
      stky := s.stky ||| 0x02000000, irptl := s.irptl ||| (0x00000008 &&& ~~~s.imaskp) } (s.pc + 1)) := by
  rw [startLoop_answers hb ha hp, pushLoop_of_full hl, loopOverflow, overflow_eq ht]
  rfl

/-- Settles O55: a push on the PC stack by its room, and a loop started by each form, LCNTR being written first where
the form writes it; on full loop stacks the loop is lost. -/
theorem loopStartResults : Obligations.LoopStartResults := by
  refine ⟨?_, ?_⟩
  · intro s a u
    refine ⟨pushPc_frame s a, fun h => ⟨?_, pcTop_of_pushPc h a, fun k => ⟨fun hk => ?_, fun hk => ?_⟩⟩,
      fun h => ?_, fun h => (pushPc_irptl s a).trans (if_pos h),
      fun h28 h30 => (pushPc_irptl s a).trans (if_neg (not_or.2 ⟨h28, h30⟩))⟩
    · rw [show u = _ from pushPc_of_room h a]
    · rw [show u = _ from pushPc_of_room h a]
      simp only [get_set, hk, if_true]
    · rw [show u = _ from pushPc_of_room h a]
      simp only [get_set, if_neg (Ne.symm hk), and_self]
    · rw [show u = _ from pushPc_of_full h a]
      exact ⟨rfl, rfl, rfl⟩
  · intro s addr off term v src hs hb hp starts
    have form : ∀ {i : Instr} {e : A24} {count : W32} (load : State → State),
        (exec i s = always s fun t => startLoop s (load t) e term) → (∀ t, load t = { t with lcs := (load t).lcs }) →
        (s.lsp.val < 6 → ∀ t, t.lcs = s.lcs → (load t).lcs.get s.lsp = count) →
        (∀ t, t.lcs = s.lcs → ∀ k : Fin 7, k.val ≠ s.lsp.val → (load t).lcs.get k = s.lcs.get k) →
        starts i e term count := fun load hi hload hcount hcounts hl ha => by
      obtain ⟨t, u, n, ht, hu, started⟩ := loop_starts hi hb ha hp hl hload (hcount hl) hcounts
      exact ⟨t, u, n, ht, hu, started.frame, started.lsp, started.top, started.count, started.addresses,
        started.counts⟩
    have plain : ∀ {i : Instr} {e : A24}, (exec i s = always s fun t => startLoop s t e term) →
        starts i e term (s.lcs.get s.lsp) := fun hi =>
      form id hi (fun _ => rfl) (fun _ t ht => congrArg (·.get s.lsp) ht) fun t ht k _ => congrArg (·.get k) ht
    have counted : ∀ {i : Instr} {w : W32},
        (exec i s = always s fun t => startLoop s (putLcntr s t w) addr term) → starts i addr term w := fun {i w} hi =>
      form (putLcntr s · w) hi (putLcntr_frame s · w) (fun hl t _ => (putLcntr_get s t w _).trans (if_pos ⟨rfl, hl⟩))
        fun t ht k hk => (putLcntr_get s t w k).trans ((if_neg fun h => hk (congrArg _ h.1)).trans (by rw [ht]))
    refine ⟨plain rfl, plain rfl, counted rfl, fun hr => counted ?_, fun hl ha => ?_⟩
    · exact always_congr fun t => by rw [takeUreg_of_givesRead hr]; rfl
    · have moved := sequenced_of_branchFree hb
      exact ⟨_, moved, (sequenced_frame moved).1,
        always_next.2 ⟨_, moved,
          startLoop_of_full (t := advance s s (s.pc + 1) false) hb ha hp hl ⟨rfl, rfl, rfl⟩ term⟩⟩

/-! The stack instructions (R41, R42, R460 to R465). -/

/-- `t` has the status registers and the status stack of `s`, and no latency runs. -/
structure SameStatus (s t : State) : Prop where
  sts : t.sts = s.sts
  cfg : t.cfg = s.cfg
  astat : t.astat = s.astat
  mode1 : t.mode1 = s.mode1
  flagIn : t.flagIn = s.flagIn
  latent : t.latent = []

theorem sameStatus_of_sequenced {s t : State} (h : sequenced s = .ok t) : SameStatus s t := by
  obtain ⟨frame, hlatent, -⟩ := sequenced_frame h
  rw [frame] at hlatent ⊢
  exact ⟨rfl, rfl, rfl, rfl, rfl, hlatent⟩

theorem sameLatch_of_sequenced {s t : State} (h : sequenced s = .ok t) :
    t.stky = s.stky ∧ t.irptl = s.irptl ∧ t.imaskp = s.imaskp := by
  rw [(sequenced_frame h).1]
  exact ⟨rfl, rfl, rfl⟩

theorem pushLoops_eq_loopPart {t : State} (h : t.lsp.val < 6) : pushLoops t = loopPart t .push := by
  have next : (⟨t.lsp.val + 1, by omega⟩ : Fin 7) = t.lsp + 1 := by
    apply Fin.ext
    simp only [Fin.val_add]
    omega
  have lens : t.lens.set t.lsp.val 0 h = Vector.ofFn fun k => if k.val = t.lsp.val then 0 else t.lens.get k := by
    refine Vector.ext fun i hi => ?_
    simp only [Vector.getElem_set, Vector.getElem_ofFn, eq_comm, Vector.get_eq_getElem]
  rw [pushLoops, dif_pos h, lens, next]
  rfl

theorem popLoops_eq_loopPart {t : State} (h : 0 < t.lsp.val) : popLoops t = .ok (loopPart t .pop) := by
  have pred : (⟨t.lsp.val - 1, by omega⟩ : Fin 7) = t.lsp - 1 := by
    apply Fin.ext
    simp only [Fin.val_sub]
    omega
  rw [popLoops, if_neg (Nat.ne_of_gt h), pred]
  rfl

theorem loopPart_sameStatus {s t : State} (h : SameStatus s t) (op : StackOp) : SameStatus s (loopPart t op) := by
  cases op <;> exact ⟨h.sts, h.cfg, h.astat, h.mode1, h.flagIn, h.latent⟩

theorem stsPart_pcstkp (s t : State) (op : StackOp) : (stsPart s t op).pcstkp = t.pcstkp := by
  cases op with
  | none => rfl
  | push => rfl
  | pop =>
    cases hs : t.sts with
    | nil => simp only [stsPart, hs]
    | cons p rest => simp only [stsPart, hs]

/-- The status part, with room for a push and a pair for a pop. -/
theorem doStatus_eq_stsPart {s t : State} (same : SameStatus s t) {op : StackOp}
    (hpush : op = .push → s.sts.length < s.cfg.stsDepth) (hpop : op = .pop → s.sts ≠ []) :
    doStatus s t op = .ok (stsPart s t op) := by
  cases op with
  | none => rfl
  | push =>
    have room : t.sts.length < t.cfg.stsDepth := by
      rw [same.sts, same.cfg]
      exact hpush rfl
    have saved : (readSreg t .astat, t.mode1) = (withFlagIn s s.astat, s.mode1) := by
      rw [readSreg, withFlagIn, withFlagIn, same.astat, same.mode1, same.flagIn]
    simp only [doStatus, pushStatus, if_pos room, stsPart, saved]
  | pop =>
    cases hs : t.sts with
    | nil => exact absurd (same.sts.symm.trans hs) (hpop rfl)
    | cons p rest =>
      simp only [doStatus, restoreStatus, popStatus, hs, map_of_ok, stsPart, noteWrite, same.latent]

/-- The part of the PC stack, not right after a write of PCSTKP; a pop needs an entry and no overflow. -/
theorem doPcStack_eq_pcsPart {s t : State} {op : StackOp} (hfree : op ≠ .none → s.latentPcstkp = none)
    (hpop : op = .pop → t.pcstkp ≠ 0 ∧ t.pcstkp ≠ 31) :
    doPcStack s t op = .ok (pcsPart (drawBits 24 .pushedPc s) t op) := by
  have free : op ≠ .none → pcStackFree s = .ok () := fun h => pcStackFree_ok.2 (hfree h)
  cases op with
  | none => rfl
  | push =>
    rw [doPcStack, free (by decide)]
    rfl
  | pop =>
    obtain ⟨h0, h31⟩ := hpop rfl
    rw [doPcStack, free (by decide), bind_of_ok, popPc, if_neg h0, if_neg h31]
    rfl

/-- A status and a PC stack part one after the other. -/
theorem doStatus_bind_doPcStack {s t : State} {a b : StackOp} (same : SameStatus s t)
    (hpush : a = .push → s.sts.length < s.cfg.stsDepth) (hpop : a = .pop → s.sts ≠ [])
    (hfree : b ≠ .none → s.latentPcstkp = none) (hpc : b = .pop → t.pcstkp ≠ 0 ∧ t.pcstkp ≠ 31) :
    ((doStatus s t a).bind fun t => doPcStack s t b) =
      .ok (pcsPart (drawBits 24 .pushedPc s) (stsPart s t a) b) := by
  rw [doStatus_eq_stsPart same hpush hpop, bind_of_ok]
  exact doPcStack_eq_pcsPart hfree fun hb => by
    rw [stsPart_pcstkp]
    exact hpc hb

theorem popReady_iff {s : State} :
    popReady s = true ↔ s.latentPcstkp = none ∧ s.pcstkp ≠ 0 ∧ s.pcstkp ≠ 31 := by
  simp only [popReady, Bool.and_eq_true, Option.isNone_iff_eq_none, decide_eq_true_eq, and_assoc]
  refine and_congr_right fun _ => ?_
  constructor
  · rintro ⟨h1, h2⟩
    constructor <;> bv_omega
  · rintro ⟨h1, h2⟩
    constructor <;> bv_omega

/-- A stack instruction outside delay slots runs its own operation on the sequenced state. -/
theorem stackInstr_eq {s t : State} (hs : inSlot s = false) (ht : sequenced s = .ok t) (f : State → Res State) :
    stackInstr s f = toOutcome (f t) := by
  simp [stackInstr, always, ht, notInSlot, hs]

theorem completes_of_stackInstr {i : Instr} {s t : State} {f : State → Res State} {g : State → State}
    (hi : exec i s = stackInstr s f) (hs : inSlot s = false) (ht : sequenced s = .ok t) (hf : f t = .ok (g t)) :
    completes i s g :=
  ⟨t, ht, (sequenced_frame ht).1, by rw [hi, stackInstr_eq hs ht, hf]; rfl⟩

theorem refused_of_stackInstr {i : Instr} {s t : State} {f : State → Res State} {r : Refusal}
    (hi : exec i s = stackInstr s f) (hs : inSlot s = false) (ht : sequenced s = .ok t) (hf : f t = refused r) :
    exec i s = .refused r := by
  rw [hi, stackInstr_eq hs ht, hf]
  rfl

/-- With no loop active the sequencer leaves the stack pointers. -/
theorem pointers_of_no_loop {s t : State} (hl : s.lsp.val = 0) (ht : sequenced s = .ok t) :
    t.lsp = s.lsp ∧ t.pcstkp = s.pcstkp := by
  simp only [sequenced, bind_ok, map_ok] at ht
  obtain ⟨_, _, u, hu, n, hn, rfl⟩ := ht
  simp only [loopTest, loopTop_of_no_loop hl, Except.ok.injEq] at hu
  subst hu
  rw [advance_lsp, advance_pcstkp, nextAddress_frame hn]
  exact ⟨rfl, rfl⟩

theorem pointers_of_offLoopEnds {s t : State} (h : offLoopEnds s) (ht : sequenced s = .ok t) :
    t.lsp = s.lsp ∧ t.pcstkp = s.pcstkp := by
  rw [sequenced_of_offLoopEnds h] at ht
  cases ht
  exact ⟨rfl, rfl⟩

/-- An empty or an overflowed PC stack goes with no active loop where the sequencer is ready. -/
theorem no_loop_of_flowReady {s : State} (hs : flowReady s = true) (hp : s.pcstkp = 0 ∨ s.pcstkp = 31) :
    s.lsp.val = 0 := by
  obtain ⟨held, -⟩ := flowReady_iff.1 hs
  by_contra hl
  obtain ⟨-, hle, hmax⟩ := held (by omega)
  rcases hp with hp | hp
  · rw [hp] at hle
    exact hl (Nat.le_zero.1 hle)
  · rw [hp] at hmax
    exact absurd hmax (by decide)

/-- Settles O59: each instruction is its parts in their order, each as the lemma of its stack says; full and empty
stacks apart. -/
theorem stackInstructionResults : Obligations.StackInstructionResults := by
  intro s a b hs hslot
  obtain ⟨t, ht⟩ := sequenced_of_flowReady hs
  have status := sameStatus_of_sequenced ht
  have latched := sameLatch_of_sequenced ht
  refine ⟨fun hend hpush hpop hfree hready => ⟨drawBits 24 .pushedPc s, ?_⟩, fun hl hend => ?_, fun hfull => ?_,
    fun hl => ?_, fun hempty => ?_, fun hp h31 => ⟨drawBits 5 .overflowPop s, ?_⟩, fun hp h0 => ?_⟩
  · obtain ⟨hlsp, hpcstkp⟩ := pointers_of_offLoopEnds (offLoopEnds_of_atInnerEnd hend) ht
    have entry : b = .pop → t.pcstkp ≠ 0 ∧ t.pcstkp ≠ 31 := fun hb => by
      rw [hpcstkp]
      exact (popReady_iff.1 (hready hb)).2
    refine ⟨fun hl => ?_, fun hl => ?_, ?_, ?_, ?_, ?_⟩
    · refine completes_of_stackInstr rfl hslot ht ?_
      rw [pushLoops_eq_loopPart (hlsp ▸ hl)]
      exact doStatus_bind_doPcStack (loopPart_sameStatus status _) hpush hpop hfree entry
    · refine completes_of_stackInstr rfl hslot ht ?_
      rw [popLoops_eq_loopPart (hlsp ▸ hl)]
      exact doStatus_bind_doPcStack (loopPart_sameStatus status _) hpush hpop hfree entry
    · rintro rfl
      exact completes_of_stackInstr rfl hslot ht (doStatus_bind_doPcStack status hpush hpop hfree entry)
    · rintro rfl
      exact completes_of_stackInstr rfl hslot ht (doStatus_bind_doPcStack status hpush hpop hfree entry)
    · rintro rfl
      exact completes_of_stackInstr rfl hslot ht (doPcStack_eq_pcsPart hfree entry)
    · rintro rfl
      exact completes_of_stackInstr rfl hslot ht (doPcStack_eq_pcsPart hfree entry)
  · obtain ⟨hlsp, -⟩ := pointers_of_offLoopEnds (offLoopEnds_of_atInnerEnd hend) ht
    refine completes_of_stackInstr rfl hslot ht (congrArg Except.ok ?_)
    exact (dif_neg (by rw [hlsp, hl]; decide)).trans (overflow_eq latched 25)
  · refine completes_of_stackInstr rfl hslot ht (congrArg Except.ok ?_)
    exact (if_neg (by rw [status.sts, status.cfg]; omega)).trans (overflow_eq latched 23)
  · refine refused_of_stackInstr rfl hslot ht ?_
    rw [popLoops, if_pos (by rw [(pointers_of_no_loop hl ht).1, hl])]
    rfl
  · refine refused_of_stackInstr rfl hslot ht ?_
    simp only [restoreStatus, popStatus, status.sts, hempty]
    rfl
  · have pointer := (pointers_of_no_loop (no_loop_of_flowReady hs (.inr h31)) ht).2.trans h31
    refine completes_of_stackInstr rfl hslot ht ?_
    have free : pcStackFree s = .ok () := pcStackFree_ok.2 hp
    simp only [doPcStack, free, bind_of_ok, popPc, pointer]
    rfl
  · have pointer := (pointers_of_no_loop (no_loop_of_flowReady hs (.inl h0)) ht).2.trans h0
    refine refused_of_stackInstr rfl hslot ht ?_
    have free : pcStackFree s = .ok () := pcStackFree_ok.2 hp
    simp only [doPcStack, free, bind_of_ok, popPc, pointer]
    rfl

end Sys2Proof.Machine
end

-- Proofs of the statements of 20_memory.md.
section
/-! SUPPORT. Stores and loads of memory: what a load reads after a store to the same address, and which bytes a store
leaves. -/

namespace Sys2Proof.Machine

/-! The words last written at another width (R110, D4). -/

theorem contains_insertAddr (a : Nat) (l : List Nat) : (insertAddr a l).contains a = true := by
  induction l with
  | nil => simp [insertAddr]
  | cons b l ih =>
    unfold insertAddr
    split
    · simp
    · split
      · next heq => simp [heq]
      · rw [List.contains_cons, ih, Bool.or_true]

theorem contains_filter_ne (a : Nat) (l : List Nat) : (l.filter (· != a)).contains a = false := by
  simp [List.contains_eq_mem]

/-! The column of a word (R106). -/

/-- The word address `a` is of a region of memory, internal or external, of width `w`. -/
def wordOfWidth (p : Params) (a : Nat) (w : WordWidth) : Prop :=
  (∃ b, regionOf p a = .internal b w) ∨ regionOf p a = .external w

section
variable {m : Memory} {a : Nat} {w : WordWidth} {v : W48}

theorem readColumn_w32 (full : Bool) :
    readColumn m a .w32 full = (m.readBytes (wordKey a + 2) 4).map fun n => bus32 (BitVec.ofNat 32 n) := rfl

theorem readColumn_full (hw : w ≠ .w32) :
    readColumn m a w true = (m.readBytes (wordKey a) 6).map (BitVec.ofNat 48) := by
  cases w with
  | w32 => exact absurd rfl hw
  | w40 => rfl
  | w48 => rfl

theorem readColumn_data (hw : w ≠ .w32) :
    readColumn m a w false = (m.readBytes (wordKey a + 1) 5).map fun n => bus40 (BitVec.ofNat 40 n) := by
  cases w with
  | w32 => exact absurd rfl hw
  | w40 => rfl
  | w48 => rfl

theorem writeColumn_w32 (sp : Space) (full : Bool) :
    writeColumn m a .w32 sp full v = m.writeBytes (wordKey a + 2) 4 (low32 v).toNat := rfl

theorem writeColumn_dm (hw : w ≠ .w32) (full : Bool) :
    writeColumn m a w .dm full v = m.writeBytes (wordKey a + 1) 5 (low40 v).toNat := by
  cases w with
  | w32 => exact absurd rfl hw
  | w40 => rfl
  | w48 => rfl

theorem writeColumn_pm (hw : w ≠ .w32) (full : Bool) :
    writeColumn m a w .pm full v = m.writeBytes (wordKey a) 6 (if full then v else bus40 (low40 v)).toNat := by
  cases w with
  | w32 => exact absurd rfl hw
  | w40 => rfl
  | w48 => rfl

/-- All bytes of a word make the word again. -/
theorem ofNat_toNat_mod {n : Nat} (x : BitVec (8 * n)) : BitVec.ofNat (8 * n) (x.toNat % 256 ^ n) = x := by
  have bytes : 256 ^ n = 2 ^ (8 * n) := by rw [Nat.pow_mul]
  rw [bytes, Nat.mod_eq_of_lt x.isLt, BitVec.ofNat_toNat, BitVec.setWidth_eq]

/-- The five upper bytes of a column are its 40 bits of data. -/
theorem ofNat_upper_bytes (x : W48) : BitVec.ofNat 40 (x.toNat / 256 ^ 1 % 256 ^ 5) = low40 x := by
  refine BitVec.eq_of_toNat_eq ?_
  rw [low40, BitVec.extractLsb'_toNat, BitVec.toNat_ofNat, Nat.shiftRight_eq_div_pow]
  exact Nat.mod_mod _ _

theorem readColumn_writeColumn_w32 (sp : Space) (full wide : Bool) :
    readColumn (writeColumn m a .w32 sp full v) a .w32 wide = some (bus32 (low32 v)) := by
  rw [writeColumn_w32, readColumn_w32, Memory.readBytes_writeBytes, Option.map_some, ofNat_toNat_mod (n := 4)]

/-- A store over either bus, of 40 bits or of 48, leaves the 40 bits of data above the low byte. -/
theorem readColumn_writeColumn_data (hw : w ≠ .w32) (sp : Space) (full : Bool) :
    readColumn (writeColumn m a w sp full v) a w false = some (bus40 (low40 v)) := by
  rw [readColumn_data hw]
  cases sp with
  | dm => rw [writeColumn_dm hw, Memory.readBytes_writeBytes, Option.map_some, ofNat_toNat_mod (n := 5)]
  | pm =>
    have data : low40 (if full = true then v else bus40 (low40 v)) = low40 v := by
      split
      · rfl
      · exact low40_append _ _
    rw [writeColumn_pm hw, Memory.readBytes_writeBytes_part _ _ _ _ _ _ (by decide), Option.map_some,
      ofNat_upper_bytes, data]

theorem readColumn_writeColumn_full (hw : w ≠ .w32) :
    readColumn (writeColumn m a w .pm true v) a w true = some v := by
  rw [writeColumn_pm hw, readColumn_full hw, Memory.readBytes_writeBytes, Option.map_some, if_pos rfl,
    ofNat_toNat_mod (n := 6)]

end

/-! A load of a word of memory. -/

section
variable {s : State} {a : Nat} {w : WordWidth} {full : Bool}

theorem readHeld_of_same_width (h : w = .w32 ∨ holds48 s a w = full) :
    readHeld s a w full = .ok (readColumn s.mem a w full) := if_pos h

theorem readHeld_of_other_width (hw : w ≠ .w32) (h : holds48 s a w ≠ full)
    (hn : (readColumn s.mem a w false).isSome = true) : readHeld s a w full = refused .widthMismatch := by
  rw [readHeld, if_neg (not_or.2 ⟨hw, h⟩), if_pos hn]

theorem readWord_of_held (hr : wordOfWidth s.cfg a w) {v : W48} (h : readHeld s a w full = .ok (some v)) (bus : Space) :
    readWord s bus full a = .ok (onPmBus s (full && w == .w32) v) := by
  obtain ⟨b, hr⟩ | hr := hr
  · simp only [readWord, hr, h, bind_of_ok]
  · simp only [readWord, hr, h, map_of_ok]

theorem readWord_of_refused (hr : wordOfWidth s.cfg a w) {r : Refusal} (h : readHeld s a w full = refused r)
    (bus : Space) : readWord s bus full a = refused r := by
  obtain ⟨b, hr⟩ | hr := hr
  · simp only [readWord, hr, h, refused, bind_of_error]
  · simp only [readWord, hr, h, refused, map_of_error]

end

/-! A load after a store to the same address. -/

section
variable {s : State} {sp bus : Space} {full : Bool} {a : Nat} {w : WordWidth} {v : W48}

theorem writtenMem_of_wordOfWidth (hr : wordOfWidth s.cfg a w) :
    writtenMem s sp full a v = writeColumn s.mem a w sp full v := by
  obtain ⟨b, hr⟩ | hr := hr <;> simp only [writtenMem, hr]

theorem writtenWidths_w40 (hr : wordOfWidth s.cfg a .w40) :
    writtenWidths s full a = if full then insertAddr a s.rewidth else s.rewidth.filter (· != a) := by
  obtain ⟨b, hr⟩ | hr := hr <;> simp only [writtenWidths, hr]

theorem writtenWidths_w48 (hr : wordOfWidth s.cfg a .w48) :
    writtenWidths s full a = if full then s.rewidth.filter (· != a) else insertAddr a s.rewidth := by
  obtain ⟨b, hr⟩ | hr := hr <;> simp only [writtenWidths, hr]

/-- A store notes with how many bits it wrote the word. -/
theorem holds48_storeWord (hr : wordOfWidth s.cfg a w) (hw : w ≠ .w32) :
    holds48 (storeWord s sp full a v) a w = full := by
  rw [holds48, storeWord_rewidth]
  cases w with
  | w32 => exact absurd rfl hw
  | w40 =>
    rw [writtenWidths_w40 hr]
    cases full with
    | false => rw [if_neg Bool.false_ne_true, contains_filter_ne]; rfl
    | true => rw [if_pos rfl, contains_insertAddr]; rfl
  | w48 =>
    rw [writtenWidths_w48 hr]
    cases full with
    | false => rw [if_neg Bool.false_ne_true, contains_insertAddr]; rfl
    | true => rw [if_pos rfl, contains_filter_ne]; rfl

/-- A 32-bit word keeps bits 47-16, whatever the widths of the store and of the load. -/
theorem readWord_storeWord_w32 (hr : wordOfWidth s.cfg a .w32) (wide : Bool) :
    readWord (storeWord s sp full a v) bus wide a =
      .ok (onPmBus (storeWord s sp full a v) wide (bus32 (low32 v))) := by
  have held := readHeld_of_same_width (s := storeWord s sp full a v) (a := a) (full := wide) (.inl rfl)
  rw [storeWord_mem, writtenMem_of_wordOfWidth hr, readColumn_writeColumn_w32] at held
  rw [readWord_of_held (s := storeWord s sp full a v) hr held, beq_self_eq_true, Bool.and_true]

/-- A wider word reads back with as many bits as it was stored with. -/
theorem readWord_storeWord_same_width (hr : wordOfWidth s.cfg a w) (hw : w ≠ .w32) (hpm : full = true → sp = .pm) :
    readWord (storeWord s sp full a v) bus full a = .ok (if full then v else bus40 (low40 v)) := by
  have content : readColumn (writeColumn s.mem a w sp full v) a w full =
      some (if full then v else bus40 (low40 v)) := by
    cases full with
    | false => exact readColumn_writeColumn_data hw _ _
    | true =>
      rw [hpm rfl]
      exact readColumn_writeColumn_full hw
  have held := readHeld_of_same_width (s := storeWord s sp full a v) (.inr (holds48_storeWord hr hw))
  rw [storeWord_mem, writtenMem_of_wordOfWidth hr, content] at held
  rw [readWord_of_held (s := storeWord s sp full a v) hr held, beq_eq_false_iff_ne.2 hw, Bool.and_false]
  rfl

/-- A wider word is not read with another number of bits than it was stored with (R110, D4). -/
theorem readWord_storeWord_other_width (hr : wordOfWidth s.cfg a w) (hw : w ≠ .w32) {wide : Bool}
    (hne : full ≠ wide) :
    readWord (storeWord s sp full a v) bus wide a = refused .widthMismatch := by
  refine readWord_of_refused (s := storeWord s sp full a v) hr (readHeld_of_other_width hw ?_ ?_) bus
  · rwa [holds48_storeWord hr hw]
  · rw [storeWord_mem, writtenMem_of_wordOfWidth hr, readColumn_writeColumn_data hw]
    rfl

/-- A short word reads back its 16 bits, extended as the store leaves MODE1.SSE (R109). -/
theorem readWord_storeWord_short (hr : regionOf s.cfg a = .internalShort) (wide : Bool) :
    readWord (storeWord s sp full a v) bus wide a =
      .ok (onPmBus (storeWord s sp full a v) wide
        (busShort (storeWord s sp full a v) ((low32 v).extractLsb' 0 16))) := by
  simp only [readWord, storeWord_cfg, storeWord_mem, writtenMem, hr, Memory.readBytes_writeBytes,
    ofNat_toNat_mod (n := 2)]

/-! The bytes a store leaves. -/

/-- A store to any address writes the bytes `storedBytes` names. -/
theorem writtenMem_eq_writeBytes (s : State) (sp : Space) (full : Bool) (a : Nat) (v : W48) :
    ∃ n, writtenMem s sp full a v =
      s.mem.writeBytes (storedBytes s.cfg sp a).1 (storedBytes s.cfg sp a).2 n := by
  have column : ∀ w, storedBytes s.cfg sp a =
        (if w = .w32 then (wordKey a + 2, 4) else if sp = .dm then (wordKey a + 1, 5) else (wordKey a, 6)) →
      ∃ n, writeColumn s.mem a w sp full v =
        s.mem.writeBytes (storedBytes s.cfg sp a).1 (storedBytes s.cfg sp a).2 n := by
    intro w hb
    rw [hb]
    by_cases hw : w = .w32
    · subst hw
      exact ⟨_, writeColumn_w32 _ _⟩
    · rw [if_neg hw]
      cases sp with
      | dm => exact ⟨_, writeColumn_dm hw _⟩
      | pm => exact ⟨_, writeColumn_pm hw _⟩
  cases hr : regionOf s.cfg a with
  | unmapped => exact ⟨0, by simp only [writtenMem, storedBytes, hr, Memory.writeBytes]⟩
  | iopReg => exact ⟨0, by simp only [writtenMem, storedBytes, hr, Memory.writeBytes]⟩
  | multiprocessor id => exact ⟨0, by simp only [writtenMem, storedBytes, hr, Memory.writeBytes]⟩
  | internalShort => exact ⟨_, by simp only [writtenMem, storedBytes, hr]; rfl⟩
  | internal b w =>
    rw [writtenMem_of_wordOfWidth (.inl ⟨b, hr⟩)]
    refine column w ?_
    cases w <;> simp [storedBytes, hr]
  | external w =>
    rw [writtenMem_of_wordOfWidth (.inr hr)]
    refine column w ?_
    cases w <;> simp [storedBytes, hr]

theorem storeWord_sameMemoryBut (s : State) (sp : Space) (full : Bool) (a : Nat) (v : W48) :
    sameMemoryBut s (storeWord s sp full a v) sp a := by
  intro k hk
  obtain ⟨n, hn⟩ := writtenMem_eq_writeBytes s sp full a v
  rw [storeWord_mem, hn, Memory.read_writeBytes_outside _ _ _ _ _ hk]

end

/-- Settles O13: a load after the store reads the column the store wrote; the store writes the bytes `storedBytes`
names and no other. -/
theorem wordsReadAsStored : Obligations.WordsReadAsStored := by
  intro s t sp bus full a v stored hpm
  obtain ⟨-, rfl⟩ := writeWord_ok.1 stored
  refine ⟨fun b w hr => ?_, fun hr => ?_, storeWord_sameMemoryBut s sp full a v⟩
  · have region : wordOfWidth s.cfg a w := hr.imp_left fun h => ⟨b, h⟩
    refine ⟨?_, ?_, ?_⟩
    · rintro rfl
      exact ⟨readWord_storeWord_w32 region false, _, readWord_storeWord_w32 region true⟩
    · rintro hw rfl
      exact ⟨readWord_storeWord_same_width region hw hpm, readWord_storeWord_other_width region hw (by decide)⟩
    · rintro hw rfl
      exact ⟨readWord_storeWord_same_width region hw hpm, readWord_storeWord_other_width region hw (by decide)⟩
  · exact ⟨readWord_storeWord_short hr false, _, readWord_storeWord_short hr true⟩

end Sys2Proof.Machine
end

-- Proofs of the statements of 30_encoding.md.
section
/-! SUPPORT. Words and their fields: what the decoder accepts is what the encoder writes; and the computations alone and
under a condition. -/

namespace Sys2Proof

/-! A word read field by field. `Reads` stands between the decoder, which takes fields out of a number, and `pack`,
which puts them together. -/

/-- From bit `lo` up, the fields of `v` hold the (width, value) pairs of the list, and no bit above them is set. -/
def Reads (v : Nat) : Nat → List (Nat × Nat) → Prop
  | lo, [] => v / 2 ^ lo = 0
  | lo, (w, a) :: l => fld v lo w = a % 2 ^ w ∧ Reads v (lo + w) l

theorem Reads.cons {v lo w a : Nat} {l : List (Nat × Nat)} (h : fld v lo w = a % 2 ^ w) (hl : Reads v (lo + w) l) :
    Reads v lo ((w, a) :: l) := ⟨h, hl⟩

/-- Reading the fields of a list is being the number packed of them. -/
theorem reads_iff_pack {v lo : Nat} {l : List (Nat × Nat)} : Reads v lo l ↔ pack l = v / 2 ^ lo := by
  induction l generalizing lo with
  | nil => exact eq_comm
  | cons p l ih =>
    obtain ⟨w, a⟩ := p
    have shifted : v / 2 ^ (lo + w) = v / 2 ^ lo / 2 ^ w := by rw [pow_add, Nat.div_div_eq_div_mul]
    have below : a % 2 ^ w < 2 ^ w := Nat.mod_lt _ (by positivity)
    have parts := Nat.div_add_mod (v / 2 ^ lo) (2 ^ w)
    rw [Reads, ih, shifted, pack, fld]
    constructor
    · rintro ⟨h1, h2⟩
      rw [← h1, h2]
      omega
    · intro h
      rw [← h]
      constructor
      · simp
      · rw [Nat.add_mul_div_left _ _ (by positivity), Nat.div_eq_of_lt below, Nat.zero_add]

theorem reads_pack (l : List (Nat × Nat)) : Reads (pack l) 0 l := reads_iff_pack.2 (by simp)

theorem Reads.pack_eq {v : Nat} {l : List (Nat × Nat)} (h : Reads v 0 l) : pack l = v := by
  simpa using reads_iff_pack.1 h

/-- A packed number is no wider than its fields together. -/
theorem pack_lt (l : List (Nat × Nat)) : pack l < 2 ^ (l.map Prod.fst).sum := by
  induction l with
  | nil => simp [pack]
  | cons p l ih =>
    obtain ⟨w, a⟩ := p
    have below : a % 2 ^ w < 2 ^ w := Nat.mod_lt _ (by positivity)
    have le : 2 ^ w * (pack l + 1) ≤ 2 ^ w * 2 ^ (l.map Prod.fst).sum := Nat.mul_le_mul_left _ ih
    simp only [pack, List.map_cons, List.sum_cons, pow_add]
    rw [Nat.mul_add, Nat.mul_one] at le
    omega

theorem pack_lt_of_width_le {l : List (Nat × Nat)} {w : Nat} (hl : (l.map Prod.fst).sum ≤ w) : pack l < 2 ^ w :=
  (pack_lt l).trans_le (pow_le_pow_right₀ one_le_two hl)

theorem fld_lt (v lo w : Nat) : fld v lo w < 2 ^ w := Nat.mod_lt _ (by positivity)

/-- A field of a field. -/
theorem fld_fld {v lo n i w : Nat} (h : i + w ≤ n) : fld (fld v lo n) i w = fld v (lo + i) w := by
  obtain ⟨m, rfl⟩ := Nat.exists_eq_add_of_le h
  simp only [fld]
  have narrower : 2 ^ w ∣ 2 ^ (w + m) := pow_dvd_pow 2 (Nat.le_add_right w m)
  rw [Nat.add_assoc, pow_add 2 i, Nat.mod_mul_right_div_self, Nat.mod_mod_of_dvd _ narrower, Nat.div_div_eq_div_mul,
    ← pow_add]

theorem ends_ok {α : Type} {v lo : Nat} {a b : α} : ends v lo a = .ok b ↔ v / 2 ^ lo = 0 ∧ a = b := by
  unfold ends
  split <;> simp [*]

theorem bind_eq_of_ok {α β : Type} {x : Except DecodeError α} {a : α} {f : α → Except DecodeError β} {b : β}
    (hx : x = .ok a) (hf : f a = .ok b) : x.bind f = .ok b := by
  subst hx
  exact hf

/-! The decoder's tables against the encoder's, code by code. -/

@[simp] theorem Sgn.ofCode_code (g : Sgn) : Sgn.ofCode g.code = g := by cases g <;> rfl

theorem Sgn.code_ofCode : ∀ k < 2, (Sgn.ofCode k).code = k := by decide

@[simp] theorem Cond.ofCode_code (c : Cond) : Cond.ofCode c.code = c := by cases c <;> rfl

theorem Cond.code_ofCode : ∀ k < 32, (Cond.ofCode k).code = k := by decide

theorem Cond.code_lt (c : Cond) : c.code < 2 ^ 5 := by cases c <;> decide

@[simp] theorem DagKind.ofCode_code (k : DagKind) : DagKind.ofCode k.code = k := by cases k <;> rfl

theorem DagKind.code_ofCode : ∀ k < 4, (DagKind.ofCode k).code = k := by decide

theorem DagKind.code_lt (k : DagKind) : k.code < 4 := by cases k <;> decide

theorem StackOp.ofCode_ok {k : Nat} {a : StackOp} : StackOp.ofCode k = .ok a ↔ k = a.code := by
  constructor
  · intro h
    unfold StackOp.ofCode at h
    split at h <;> cases h <;> rfl
  · rintro rfl
    cases a <;> rfl

theorem Sreg.ofCode_ok {k : Nat} {r : Sreg} : Sreg.ofCode k = .ok r ↔ k = r.code := by
  constructor
  · intro h
    unfold Sreg.ofCode at h
    split at h <;> cases h <;> rfl
  · rintro rfl
    cases r <;> rfl

theorem Ureg.code_of_ofNamed {k : Nat} {u : Ureg} (h : Ureg.ofNamed k = .ok u) : u.code = 80 + k := by
  unfold Ureg.ofNamed at h
  split at h <;> cases h <;> rfl

/-- A register of eight in one of the four kinds, by its code from `m` on. -/
theorem dag_ofCode {m : Nat} (hm : m % 8 = 0) (k : DagKind) (n : Fin 8) :
    DagKind.ofCode ((m + 8 * k.code + n.val - m) / 8) = k ∧ Fin.ofNat 8 (m + 8 * k.code + n.val) = n := by
  have kind : (m + 8 * k.code + n.val - m) / 8 = k.code := by omega
  refine ⟨by rw [kind, DagKind.ofCode_code], Fin.ext ?_⟩
  rw [Fin.val_ofNat]
  omega

theorem Ureg.ofCode_code (u : Ureg) : Ureg.ofCode u.code = .ok u := by
  cases u
  case r n => simp [Ureg.ofCode, Ureg.code]
  case dag1 k n =>
    have := k.code_lt
    obtain ⟨hk, hn⟩ := dag_ofCode (m := 16) rfl k n
    rw [Ureg.code, Ureg.ofCode, if_neg (by omega), if_pos (by omega), hk, hn]
  case dag2 k n =>
    have := k.code_lt
    obtain ⟨hk, hn⟩ := dag_ofCode (m := 48) rfl k n
    rw [Ureg.code, Ureg.ofCode, if_neg (by omega), if_neg (by omega), if_pos (by omega), hk, hn]
  case sys r => cases r <;> rfl
  all_goals rfl

theorem Ureg.code_of_ofCode {k : Nat} {u : Ureg} (h : Ureg.ofCode k = .ok u) : u.code = k := by
  unfold Ureg.ofCode at h
  split at h
  · cases h
    simp only [Ureg.code, Fin.val_ofNat]
    omega
  split at h
  · cases h
    simp only [Ureg.code, Fin.val_ofNat, DagKind.code_ofCode ((k - 16) / 8) (by omega)]
    omega
  split at h
  · cases h
    simp only [Ureg.code, Fin.val_ofNat, DagKind.code_ofCode ((k - 48) / 8) (by omega)]
    omega
  split at h
  · rw [Ureg.code_of_ofNamed h]
    omega
  · cases hr : Sreg.ofCode (k - 96) with
    | error e => rw [hr] at h; cases h
    | ok r =>
      rw [hr] at h
      cases h
      have := Sreg.ofCode_ok.1 hr
      simp only [Ureg.code]
      omega

theorem Ureg.code_lt (u : Ureg) : u.code < 2 ^ 7 := by
  cases u
  case dag1 k n | dag2 k n =>
    have := k.code_lt
    simp only [Ureg.code]
    omega
  case r n => simp only [Ureg.code]; omega
  case sys r => cases r <;> decide
  all_goals decide

theorem Sreg.code_lt (r : Sreg) : r.code < 2 ^ 4 := by cases r <;> decide

theorem StackOp.code_lt (a : StackOp) : a.code < 2 ^ 2 := by cases a <;> decide

/-! One operand in its field: the decoder reads `a` where the field holds the code of `a`. -/

theorem eq_mod_iff {k a n : Nat} (ha : a < n) : k = a % n ↔ k = a := by rw [Nat.mod_eq_of_lt ha]

section
variable {v lo : Nat}

theorem fld_eq_fin {n w : Nat} [NeZero n] (hn : n = 2 ^ w) {k : Fin n} :
    fld v lo w = k.val % 2 ^ w ↔ Fin.ofNat n (fld v lo w) = k := by
  rw [eq_mod_iff (hn ▸ k.isLt), Fin.ext_iff, Fin.val_ofNat, Nat.mod_eq_of_lt (hn ▸ fld_lt v lo w)]

theorem fld_eq_reg {n : Reg} : fld v lo 4 = n.val % 2 ^ 4 ↔ regAt v lo = n := fld_eq_fin rfl

theorem fld_eq_quad {k : Quad} : fld v lo 2 = k.val % 2 ^ 2 ↔ quadAt v lo = k := fld_eq_fin rfl

theorem fld_eq_dag {n : Fin 8} : fld v lo 3 = n.val % 2 ^ 3 ↔ dagAt v lo = n := fld_eq_fin rfl

theorem fld_eq_data {w : Nat} {d : BitVec w} : fld v lo w = d.toNat % 2 ^ w ↔ BitVec.ofNat w (fld v lo w) = d := by
  rw [eq_mod_iff d.isLt, ← BitVec.toNat_inj, BitVec.toNat_ofNat, Nat.mod_eq_of_lt (fld_lt v lo w)]

theorem fld_eq_flag {b : Bool} : fld v lo 1 = bit1 b % 2 ^ 1 ↔ flag v lo = b := by
  have := fld_lt v lo 1
  cases b <;> simp only [flag, bit1, beq_iff_eq, beq_eq_false_iff_ne, if_true, if_false, Bool.false_eq_true] <;> omega

theorem fld_eq_sgn {g : Sgn} : fld v lo 1 = g.code % 2 ^ 1 ↔ Sgn.ofCode (fld v lo 1) = g := by
  rw [eq_mod_iff (by cases g <;> decide)]
  refine ⟨fun h => by rw [h, Sgn.ofCode_code], ?_⟩
  rintro rfl
  exact (Sgn.code_ofCode _ (fld_lt v lo 1)).symm

theorem fld_eq_cond {c : Cond} : fld v lo 5 = c.code % 2 ^ 5 ↔ Cond.ofCode (fld v lo 5) = c := by
  rw [eq_mod_iff c.code_lt]
  refine ⟨fun h => by rw [h, Cond.ofCode_code], ?_⟩
  rintro rfl
  exact (Cond.code_ofCode _ (fld_lt v lo 5)).symm

theorem fld_eq_stackOp {a : StackOp} : fld v lo 2 = a.code % 2 ^ 2 ↔ StackOp.ofCode (fld v lo 2) = .ok a := by
  rw [eq_mod_iff a.code_lt, StackOp.ofCode_ok]

theorem fld_eq_sreg {r : Sreg} : fld v lo 4 = r.code % 2 ^ 4 ↔ Sreg.ofCode (fld v lo 4) = .ok r := by
  rw [eq_mod_iff r.code_lt, Sreg.ofCode_ok]

theorem fld_eq_ureg {u : Ureg} : fld v lo 7 = u.code % 2 ^ 7 ↔ Ureg.ofCode (fld v lo 7) = .ok u := by
  rw [eq_mod_iff u.code_lt]
  exact ⟨fun h => h ▸ u.ofCode_code, fun h => (Ureg.code_of_ofCode h).symm⟩

/-- A field that itself is packed of fields. -/
theorem fld_eq_pack {w : Nat} {l : List (Nat × Nat)} (hl : (l.map Prod.fst).sum ≤ w) :
    fld v lo w = pack l % 2 ^ w ↔ Reads (fld v lo w) 0 l := by
  rw [eq_mod_iff (pack_lt_of_width_le hl), reads_iff_pack, pow_zero, Nat.div_one, eq_comm]

theorem fld_eq_satMod {m : SatMod} : fld v lo 2 = m.code % 2 ^ 2 ↔ SatMod.ofCode (fld v lo 2) = m := by
  have top : fld v lo 2 / 2 ^ 2 = 0 := Nat.div_eq_of_lt (fld_lt v lo 2)
  rw [SatMod.code, fld_eq_pack (w := 2) le_rfl]
  constructor
  · rintro ⟨hg, hf, -⟩
    exact congrArg₂ SatMod.mk (fld_eq_sgn.1 hg) (fld_eq_flag.1 hf)
  · rintro rfl
    exact ⟨fld_eq_sgn.2 rfl, fld_eq_flag.2 rfl, top⟩

theorem fld_eq_mulMod {m : MulMod} : fld v lo 4 = m.code % 2 ^ 4 ↔ MulMod.ofCode (fld v lo 4) = .ok m := by
  have top : fld v lo 4 / 2 ^ 4 = 0 := Nat.div_eq_of_lt (fld_lt v lo 4)
  rw [MulMod.code, fld_eq_pack (w := 4) le_rfl]
  constructor
  · obtain ⟨x, y, fmt⟩ := m
    rintro ⟨hx, hy, hfmt, -⟩
    obtain rfl := fld_eq_sgn.1 hx
    obtain rfl := fld_eq_sgn.1 hy
    unfold MulMod.ofCode
    cases fmt <;> rewrite [hfmt] <;> rfl
  · intro h
    unfold MulMod.ofCode at h
    split at h <;> cases h <;> exact ⟨fld_eq_sgn.2 rfl, fld_eq_sgn.2 rfl, ‹_›, top⟩

theorem fld_eq_side {d : DualSide} : fld v lo 11 = d.code % 2 ^ 11 ↔ sideAt v lo = d := by
  have top : fld v lo 11 / 2 ^ 11 = 0 := Nat.div_eq_of_lt (fld_lt v lo 11)
  have inner : sideAt (fld v lo 11) 0 = sideAt v lo := by
    simp only [sideAt, flag, regAt, dagAt, fld_fld, Nat.reduceAdd, Nat.reduceLeDiff, Nat.add_zero]
  rw [DualSide.code, fld_eq_pack (w := 11) le_rfl, ← inner]
  constructor
  · obtain ⟨store, r, i, m⟩ := d
    rintro ⟨hs, hr, hi, hm, -⟩
    obtain rfl := fld_eq_flag.1 hs
    obtain rfl := fld_eq_reg.1 hr
    obtain rfl := fld_eq_dag.1 hi
    obtain rfl := fld_eq_dag.1 hm
    rfl
  · rintro rfl
    exact ⟨fld_eq_flag.2 rfl, fld_eq_reg.2 rfl, fld_eq_dag.2 rfl, fld_eq_dag.2 rfl, top⟩

end

/-! What a decoder accepts. -/

/-- `P` holds of whatever `x` answers. -/
def Accepts {α : Type} (x : Except DecodeError α) (P : α → Prop) : Prop := ∀ a, x = .ok a → P a

section
variable {α β : Type} {P : β → Prop}

theorem accepts_ok {b : β} : Accepts (.ok b) P ↔ P b := by simp [Accepts]

theorem accepts_error {e : DecodeError} : Accepts (.error e) P ↔ True := by simp [Accepts]

theorem accepts_ends {b : β} {v lo : Nat} : Accepts (ends v lo b) P ↔ (v / 2 ^ lo = 0 → P b) := by
  simp [Accepts, ends_ok]

theorem accepts_bind {x : Except DecodeError α} {f : α → Except DecodeError β} :
    Accepts (x.bind f) P ↔ ∀ a, x = .ok a → Accepts (f a) P := by
  cases x with
  | error e => simp [Accepts, Except.bind]
  | ok a => simp [Accepts, Except.bind]

end

/-! The compute field: each unit's decoder accepts only what the encoder writes. -/

section
variable {v : Nat}

theorem decodeFixedMacAlu_reads (unit : fld v 0 4 = 8) (top : v / 2 ^ 24 = 0) :
    Accepts (decodeFixedMacAlu v) fun c => Reads v 0 c.fields := by
  unfold decodeFixedMacAlu
  split
  all_goals simp only [accepts_ok, accepts_ends, accepts_error]
  all_goals
    intros
    refine Reads.cons unit (Reads.cons ‹_› ?_)
    simp only [Reads, fld_eq_reg, fld_eq_quad, Nat.reduceAdd, *, true_and]

theorem decodeFloatMulAlu_reads (unit : fld v 0 4 = 9) (top : v / 2 ^ 24 = 0) :
    Accepts (decodeFloatMulAlu v) fun c => Reads v 0 c.fields := by
  unfold decodeFloatMulAlu
  split
  all_goals simp only [accepts_ok, accepts_ends, accepts_error]
  all_goals
    intros
    refine Reads.cons unit (Reads.cons ‹_› ?_)
    simp only [Reads, fld_eq_reg, fld_eq_quad, Nat.reduceAdd, *, true_and]

theorem decodeShiftImm_reads (unit : fld v 0 4 = 10) (top : v / 2 ^ 24 = 0) :
    Accepts (decodeShiftImm v) fun c => Reads v 0 c.fields := by
  unfold decodeShiftImm
  split
  all_goals simp only [accepts_ok, accepts_ends, accepts_error]
  all_goals
    intros
    refine Reads.cons unit (Reads.cons ‹_› ?_)
    simp only [Reads, fld_eq_reg, fld_eq_data, Nat.reduceAdd, *, true_and]

theorem decodeMul_reads (unit : fld v 0 4 = 11) : Accepts (decodeMul v) fun c => Reads v 0 c.fields := by
  unfold decodeMul
  split
  all_goals simp only [accepts_bind, accepts_ends, accepts_error]
  all_goals
    intros
    refine Reads.cons unit (Reads.cons ‹_› ?_)
    simp only [Reads, fld_eq_reg, fld_eq_mulMod, Nat.reduceAdd, *, true_and]

theorem decodeShortOp_reads (unit : fld v 0 4 = 12) (top : v / 2 ^ 24 = 0) :
    Accepts (decodeShortOp v) fun c => Reads v 0 c.fields := by
  unfold decodeShortOp
  split
  all_goals simp only [accepts_ok, accepts_ends, accepts_error]
  all_goals
    intros
    refine Reads.cons unit (Reads.cons ‹_› ?_)
    simp only [Reads, fld_eq_reg, fld_eq_sgn, fld_eq_satMod, Nat.reduceAdd, *, true_and]

theorem decodeCompute_reads (top : v / 2 ^ 24 = 0) : Accepts (decodeCompute v) fun c => Reads v 0 c.fields := by
  unfold decodeCompute
  split
  case h_9 => exact decodeFixedMacAlu_reads ‹_› top
  case h_10 => exact decodeFloatMulAlu_reads ‹_› top
  case h_11 => exact decodeShiftImm_reads ‹_› top
  case h_12 => exact decodeMul_reads ‹_›
  case h_13 => exact decodeShortOp_reads ‹_› top
  all_goals simp only [accepts_ok, accepts_error]
  all_goals
    refine Reads.cons ‹_› ?_
    simp only [Reads, fld_eq_reg, fld_eq_quad, fld_eq_data, Nat.reduceAdd, top, true_and]

end

/-! And it accepts all that the encoder writes. -/

/-- By unit, and within a unit by the number of operands: the operands are those the decoder takes from `v`. -/
theorem decodeCompute_of_reads {v : Nat} {c : Compute} (h : Reads v 0 c.fields) : decodeCompute v = .ok c := by
  cases c
  all_goals
    obtain ⟨unit, h⟩ := h
    simp only [Reads, fld_eq_reg, fld_eq_quad, fld_eq_data, fld_eq_sgn, fld_eq_satMod, fld_eq_mulMod] at h
    rewrite [decodeCompute, unit]
  case rAdd | rSub | rAddCi | rSubCi | rAvg | rAnd | rOr | rXor | rMin | rMax | rClip | fAdd | fSub | fAbsAdd |
      fAbsSub | fAvg | fScalb | fFixBy | fFloatBy | fCopysign | fMin | fMax | fClip | fMul | lshift | orLshift |
      ashift | orAshift | rot | bclr | bset | btgl | fdep | orFdep | fdepSe | orFdepSe | fext | fextSe =>
    obtain ⟨op, rfl, rfl, rfl, -⟩ := h
    change decodeShortOp v = _
    rewrite [decodeShortOp, op]
    rfl
  case rComp | rPlusCi | rPlusCiLess1 | rInc | rDec | rNeg | rAbs | rPass | rNot | fComp | fNeg | fAbs | fPass |
      fRnd | fMant | fLogb | fFix | fFloat | fRecips | fRsqrts | btst | expo | expoEx | leftz | lefto | fpack |
      funpack | satRMrf | satRMrb | rndRMrf | rndRMrb =>
    obtain ⟨op, rfl, rfl, top⟩ := h
    change decodeShortOp v = _
    rewrite [decodeShortOp, op]
    exact ends_ok.2 ⟨top, rfl⟩
  case satMrf | satMrb | rndMrf | rndMrb | rdMr0f | rdMr1f | rdMr2f | rdMr0b | rdMr1b | rdMr2b | wrMr0f | wrMr1f |
      wrMr2f | wrMr0b | wrMr1b | wrMr2b =>
    obtain ⟨op, rfl, top⟩ := h
    change decodeShortOp v = _
    rewrite [decodeShortOp, op]
    exact ends_ok.2 ⟨top, rfl⟩
  case clrMrf | clrMrb =>
    obtain ⟨op, top⟩ := h
    change decodeShortOp v = _
    rewrite [decodeShortOp, op]
    exact ends_ok.2 ⟨top, rfl⟩
  case mulR | macAddRMrf | macAddRMrb | macSubRMrf | macSubRMrb =>
    obtain ⟨op, rfl, rfl, rfl, md, top⟩ := h
    change decodeMul v = _
    rewrite [decodeMul, op]
    exact bind_eq_of_ok md (ends_ok.2 ⟨top, rfl⟩)
  case mulMrf | mulMrb | macAddMrf | macAddMrb | macSubMrf | macSubMrb =>
    obtain ⟨op, rfl, rfl, md, top⟩ := h
    change decodeMul v = _
    rewrite [decodeMul, op]
    exact bind_eq_of_ok md (ends_ok.2 ⟨top, rfl⟩)
  case lshiftImm | orLshiftImm | ashiftImm | orAshiftImm | rotImm | bclrImm | bsetImm | btglImm =>
    obtain ⟨op, rfl, rfl, rfl, -⟩ := h
    change decodeShiftImm v = _
    rewrite [decodeShiftImm, op]
    rfl
  case btstImm =>
    obtain ⟨op, rfl, rfl, top⟩ := h
    change decodeShiftImm v = _
    rewrite [decodeShiftImm, op]
    exact ends_ok.2 ⟨top, rfl⟩
  case mulRWithAdd | mulRWithSub | mulRWithAvg | macAddRMrfWithAdd | macAddRMrfWithSub | macAddRMrfWithAvg |
      macSubRMrfWithAdd | macSubRMrfWithSub | macSubRMrfWithAvg =>
    obtain ⟨op, rfl, rfl, rfl, rfl, rfl, rfl, -⟩ := h
    change decodeFixedMacAlu v = _
    rewrite [decodeFixedMacAlu, op]
    rfl
  case macAddMrfWithAdd | macAddMrfWithSub | macAddMrfWithAvg | macSubMrfWithAdd | macSubMrfWithSub |
      macSubMrfWithAvg =>
    obtain ⟨op, rfl, rfl, rfl, rfl, rfl, top⟩ := h
    change decodeFixedMacAlu v = _
    rewrite [decodeFixedMacAlu, op]
    exact ends_ok.2 ⟨top, rfl⟩
  case fMulWithFAdd | fMulWithFSub | fMulWithFloatBy | fMulWithFixBy | fMulWithFAvg | fMulWithFMax |
      fMulWithFMin =>
    obtain ⟨op, rfl, rfl, rfl, rfl, rfl, rfl, -⟩ := h
    change decodeFloatMulAlu v = _
    rewrite [decodeFloatMulAlu, op]
    rfl
  case fMulWithFAbs =>
    obtain ⟨op, rfl, rfl, rfl, rfl, rfl, top⟩ := h
    change decodeFloatMulAlu v = _
    rewrite [decodeFloatMulAlu, op]
    exact ends_ok.2 ⟨top, rfl⟩
  case dualAddSub | dualFAddSub =>
    obtain ⟨op, rfl, rfl, rfl, rfl, -⟩ := h
    change decodeFloatMulAlu v = _
    rewrite [decodeFloatMulAlu, op]
    rfl
  case fdepImm | orFdepImm | fdepSeImm | orFdepSeImm | fextImm | fextSeImm =>
    obtain ⟨rfl, rfl, rfl, rfl, -⟩ := h
    rfl
  case mulRWithDual | fMulWithDual =>
    obtain ⟨rfl, rfl, rfl, rfl, rfl, rfl, rfl, -⟩ := h
    rfl

/-! The compute slot and the offset of a PC-relative branch, as operands in their fields. -/

theorem Compute.width_le (c : Compute) : (c.fields.map Prod.fst).sum ≤ 24 := by
  cases c <;> (unfold Compute.fields; simp)

theorem fld_eq_compute {v lo : Nat} {c : Compute} :
    fld v lo 24 = c.code % 2 ^ 24 ↔ decodeCompute (fld v lo 24) = .ok c := by
  rw [Compute.code, fld_eq_pack c.width_le]
  exact ⟨decodeCompute_of_reads, decodeCompute_reads (Nat.div_eq_of_lt (fld_lt v lo 24)) c⟩

/-- The empty slot is no computation's code. -/
theorem decodeCompute_emptySlot : decodeCompute 15 = .error .unusedCompute := rfl

theorem fld_eq_slot {v lo : Nat} {c : Option Compute} :
    fld v lo 24 = slotCode c % 2 ^ 24 ↔ decodeSlot (fld v lo 24) = .ok c := by
  unfold decodeSlot
  by_cases empty : fld v lo 24 = 15
  · rw [if_pos empty]
    cases c with
    | none => simp [slotCode, empty]
    | some c =>
      rw [slotCode, fld_eq_compute, empty, decodeCompute_emptySlot]
      simp
  · rw [if_neg empty]
    cases c with
    | none => cases h : decodeCompute (fld v lo 24) <;> simp [slotCode, empty, Except.map]
    | some c =>
      rw [slotCode, fld_eq_compute]
      cases h : decodeCompute (fld v lo 24) <;> simp [Except.map]

theorem offset6_toNat_mod (k : Nat) : (offset6 k).toNat % 64 = k % 64 := by
  rw [offset6, BitVec.toNat_signExtend, BitVec.toNat_setWidth, BitVec.toNat_ofNat]
  split <;> omega

theorem code_offset6 {v lo : Nat} : (offset6 (fld v lo 6)).toNat % 64 % 2 ^ 6 = fld v lo 6 := by
  have := fld_lt v lo 6
  rw [offset6_toNat_mod]
  omega

theorem code_count {v lo : Nat} : (BitVec.ofNat 32 (fld v lo 16)).toNat % 2 ^ 16 = fld v lo 16 := by
  have := fld_lt v lo 16
  rw [BitVec.toNat_ofNat]
  omega

theorem offset6_of_fits {off : A24} {k : Nat} (h : fitsOffset6 off = true) (hk : k = off.toNat % 64 % 2 ^ 6) :
    offset6 k = off := by
  have low : BitVec.ofNat 6 k = off.extractLsb' 0 6 := by
    apply BitVec.eq_of_toNat_eq
    rw [BitVec.toNat_ofNat, BitVec.extractLsb'_toNat, Nat.shiftRight_zero]
    omega
  rw [offset6, low]
  exact beq_iff_eq.1 h

/-! The instruction word: the decoder accepts only what the encoder writes. -/

theorem fields_ofCompute (c : Compute) : (Instr.ofCompute c).fields = aloneFields c := by cases c <;> rfl

section
variable {v : Nat}

theorem decodeDagMove_reads (group : fld v 0 2 = 1) : Accepts (decodeDagMove v) fun i => Reads v 0 i.fields := by
  unfold decodeDagMove
  simp only [accepts_bind]
  intro c hc u hu
  split
  case' h_8 =>
    have form : fld v 2 3 = 7 := by
      simp only [imp_false] at *
      have := fld_lt v 2 3
      omega
  all_goals
    rw [accepts_ends]
    refine fun top => Reads.cons group (Reads.cons ‹_› ?_)
    simp only [Reads, fld_eq_cond, fld_eq_slot, fld_eq_ureg, fld_eq_dag, Nat.reduceAdd, hc, hu, top, true_and]

theorem decodeBit_reads {k : Nat} {f : Sreg → W32 → Instr} (hf : ∀ r d, (f r d).fields = bitFields k r d)
    (group : fld v 0 2 = 3) (op : fld v 2 6 = k % 2 ^ 6) : Accepts (decodeBit v f) fun i => Reads v 0 i.fields := by
  unfold decodeBit
  simp only [accepts_bind, accepts_ends, hf]
  intro r hr top
  refine Reads.cons group (Reads.cons op ?_)
  simp only [Reads, List.append_eq, List.nil_append, fld_eq_sreg, fld_eq_data, Nat.reduceAdd, hr, top, true_and]

theorem decodeOther_reads (group : fld v 0 2 = 3) (word : v / 2 ^ 48 = 0) :
    Accepts (decodeOther v) fun i => Reads v 0 i.fields := by
  unfold decodeOther
  dsimp only
  split
  case h_31 => exact decodeBit_reads (k := 30) (fun _ _ => rfl) group ‹_›
  case h_32 => exact decodeBit_reads (k := 31) (fun _ _ => rfl) group ‹_›
  case h_33 => exact decodeBit_reads (k := 32) (fun _ _ => rfl) group ‹_›
  case h_34 => exact decodeBit_reads (k := 33) (fun _ _ => rfl) group ‹_›
  case h_35 => exact decodeBit_reads (k := 34) (fun _ _ => rfl) group ‹_›
  all_goals simp only [accepts_bind, accepts_ends, accepts_error, fields_ofCompute]
  all_goals
    intros
    refine Reads.cons group (Reads.cons ‹_› ?_)
    simp only [Reads, List.append_eq, List.nil_append, List.cons_append, fld_eq_cond, fld_eq_flag, fld_eq_compute,
      fld_eq_slot, fld_eq_ureg, fld_eq_dag, fld_eq_data, fld_eq_stackOp, code_offset6, code_count, Nat.reduceAdd, *,
      true_and]

theorem decodeNat_reads (word : v / 2 ^ 48 = 0) : Accepts (decodeNat v) fun i => Reads v 0 i.fields := by
  unfold decodeNat
  split
  · simp only [accepts_bind, accepts_ends]
    intro c hc _
    refine Reads.cons ‹_› ?_
    simp only [Reads, fld_eq_slot, fld_eq_side, Nat.reduceAdd, hc, word, true_and]
  · exact decodeDagMove_reads ‹_›
  · simp only [accepts_bind, accepts_ends]
    intro c hc d hd s hs top
    refine Reads.cons ‹_› ?_
    simp only [Reads, fld_eq_cond, fld_eq_slot, fld_eq_ureg, Nat.reduceAdd, hc, hd, hs, top, true_and]
  · have group : fld v 0 2 = 3 := by
      simp only [imp_false] at *
      have := fld_lt v 0 2
      omega
    exact decodeOther_reads group word

end

/-! The instruction word: the decoder accepts all that the encoder writes for a well-formed instruction. -/

theorem fits_of_relWf {off : A24} {c : Compute} (h : relWf off (some c) = true) : fitsOffset6 off = true := by
  obtain ⟨-, fits⟩ := (Bool.and_eq_true _ _).mp h
  exact fits

theorem count_of_small {count : W32} {k : Nat} (small : count.toNat < 2 ^ 16) (hk : k = count.toNat % 2 ^ 16) :
    BitVec.ofNat 32 k = count := by
  apply BitVec.eq_of_toNat_eq
  rw [BitVec.toNat_ofNat]
  omega

section
variable {v : Nat} {i : Instr}

theorem decodeNat_eq_dagMove (group : fld v 0 2 = 1 % 2 ^ 2) : decodeNat v = decodeDagMove v := by
  rewrite [decodeNat, group]
  rfl

theorem decodeNat_eq_other (group : fld v 0 2 = 3 % 2 ^ 2) : decodeNat v = decodeOther v := by
  rewrite [decodeNat, group]
  rfl

theorem decodeNat_alone (h : Reads v 0 i.fields) (hi : ∃ c, i.fields = aloneFields c ∧ i = .ofCompute c) :
    decodeNat v = .ok i := by
  obtain ⟨c, hf, rfl⟩ := hi
  rw [hf] at h
  obtain ⟨group, op, hc, top⟩ := h
  rewrite [decodeNat_eq_other group, decodeOther, op]
  exact bind_eq_of_ok (fld_eq_compute.1 hc) (ends_ok.2 ⟨top, rfl⟩)

theorem decodeNat_jumpLa {cond : Cond} {t : Target} {db ci : Bool} {c : Option Compute} (wf : targetWf t c = true)
    (h : Reads v 0 (Instr.jumpLa cond t db ci c).fields) : decodeNat v = .ok (.jumpLa cond t db ci c) := by
  cases t
  case' abs => obtain rfl := Option.isNone_iff_eq_none.1 wf
  case' rel => cases c
  all_goals
    obtain ⟨group, op, h⟩ := h
    simp only [Reads, List.append_eq, List.nil_append, List.cons_append, fld_eq_cond, fld_eq_flag, fld_eq_data,
      fld_eq_compute, fld_eq_slot, fld_eq_dag] at h
    rewrite [decodeNat_eq_other group, decodeOther, op]
  case abs | rel.none =>
    obtain ⟨rfl, rfl, rfl, rfl, top⟩ := h
    exact ends_ok.2 ⟨top, rfl⟩
  case rel.some =>
    obtain ⟨rfl, rfl, rfl, hc, hoff, top⟩ := h
    obtain rfl := offset6_of_fits (fits_of_relWf wf) hoff
    exact bind_eq_of_ok hc (ends_ok.2 ⟨top, rfl⟩)
  case ind =>
    obtain ⟨rfl, rfl, rfl, hc, rfl, rfl, top⟩ := h
    exact bind_eq_of_ok hc (ends_ok.2 ⟨top, rfl⟩)

theorem decodeNat_jumpCi {cond : Cond} {t : Target} {db : Bool} {c : Option Compute} (wf : targetWf t c = true)
    (h : Reads v 0 (Instr.jumpCi cond t db c).fields) : decodeNat v = .ok (.jumpCi cond t db c) := by
  cases t
  case' abs => obtain rfl := Option.isNone_iff_eq_none.1 wf
  case' rel => cases c
  all_goals
    obtain ⟨group, op, h⟩ := h
    simp only [Reads, List.append_eq, List.nil_append, List.cons_append, fld_eq_cond, fld_eq_flag, fld_eq_data,
      fld_eq_compute, fld_eq_slot, fld_eq_dag] at h
    rewrite [decodeNat_eq_other group, decodeOther, op]
  case abs | rel.none =>
    obtain ⟨rfl, rfl, rfl, top⟩ := h
    exact ends_ok.2 ⟨top, rfl⟩
  case rel.some =>
    obtain ⟨rfl, rfl, hc, hoff, top⟩ := h
    obtain rfl := offset6_of_fits (fits_of_relWf wf) hoff
    exact bind_eq_of_ok hc (ends_ok.2 ⟨top, rfl⟩)
  case ind =>
    obtain ⟨rfl, rfl, hc, rfl, rfl, top⟩ := h
    exact bind_eq_of_ok hc (ends_ok.2 ⟨top, rfl⟩)

/-- By the shape of the fields, which are the decoder's; well-formedness is what the shapes cannot hold: a computation
beside an absolute branch, an offset or a count too wide, a condition of the two-move form. -/
theorem decodeNat_of_reads (wf : i.wf = true) (h : Reads v 0 i.fields) : decodeNat v = .ok i := by
  cases i
  case uregMove =>
    obtain ⟨group, h⟩ := h
    simp only [Reads, fld_eq_cond, fld_eq_slot, fld_eq_ureg] at h
    obtain ⟨rfl, hc, hd, hs, top⟩ := h
    rewrite [decodeNat, group]
    exact bind_eq_of_ok hc (bind_eq_of_ok hd (bind_eq_of_ok hs (ends_ok.2 ⟨top, rfl⟩)))
  case dualMove cond c dm pm =>
    obtain ⟨group, h⟩ := h
    simp only [Reads, fld_eq_slot, fld_eq_side] at h
    obtain ⟨hc, rfl, rfl, top⟩ := h
    obtain ⟨always, -⟩ := (Bool.and_eq_true _ _).mp wf
    obtain rfl := eq_of_beq always
    rewrite [decodeNat, group]
    exact bind_eq_of_ok hc (ends_ok.2 ⟨top, rfl⟩)
  case ldDmPost | stDmPost | ldPmPost | stPmPost | ldDmPre | stDmPre | ldPmPre | stPmPre =>
    obtain ⟨group, form, h⟩ := h
    simp only [Reads, fld_eq_cond, fld_eq_slot, fld_eq_ureg, fld_eq_dag] at h
    obtain ⟨rfl, hc, hu, rfl, rfl, top⟩ := h
    rewrite [decodeNat_eq_dagMove group, decodeDagMove, form]
    exact bind_eq_of_ok hc (bind_eq_of_ok hu (ends_ok.2 ⟨top, rfl⟩))
  case compute =>
    obtain ⟨group, op, h⟩ := h
    simp only [Reads, List.append_eq, List.nil_append, fld_eq_cond, fld_eq_compute] at h
    obtain ⟨rfl, hc, top⟩ := h
    rewrite [decodeNat_eq_other group, decodeOther, op]
    exact bind_eq_of_ok hc (ends_ok.2 ⟨top, rfl⟩)
  case loadImm | ldDmAbs | stDmAbs | ldPmAbs | stPmAbs =>
    obtain ⟨group, op, h⟩ := h
    simp only [Reads, List.append_eq, List.nil_append, fld_eq_ureg, fld_eq_data] at h
    obtain ⟨hu, rfl, top⟩ := h
    rewrite [decodeNat_eq_other group, decodeOther, op]
    exact bind_eq_of_ok hu (ends_ok.2 ⟨top, rfl⟩)
  case jumpAbs cond addr db c | callAbs cond addr db c =>
    obtain rfl := Option.isNone_iff_eq_none.1 wf
    obtain ⟨group, op, h⟩ := h
    simp only [Reads, List.append_eq, List.nil_append, List.cons_append, fld_eq_cond, fld_eq_flag, fld_eq_data] at h
    obtain ⟨rfl, rfl, rfl, top⟩ := h
    rewrite [decodeNat_eq_other group, decodeOther, op]
    exact ends_ok.2 ⟨top, rfl⟩
  case jumpRel cond off db c | callRel cond off db c =>
    cases c
    all_goals
      obtain ⟨group, op, h⟩ := h
      simp only [Reads, List.append_eq, List.nil_append, List.cons_append, fld_eq_cond, fld_eq_flag, fld_eq_data,
        fld_eq_compute] at h
      rewrite [decodeNat_eq_other group, decodeOther, op]
    case none =>
      obtain ⟨rfl, rfl, rfl, top⟩ := h
      exact ends_ok.2 ⟨top, rfl⟩
    case some =>
      obtain ⟨rfl, rfl, hc, hoff, top⟩ := h
      obtain rfl := offset6_of_fits (fits_of_relWf wf) hoff
      exact bind_eq_of_ok hc (ends_ok.2 ⟨top, rfl⟩)
  case jumpInd | callInd =>
    obtain ⟨group, op, h⟩ := h
    simp only [Reads, List.append_eq, List.nil_append, List.cons_append, fld_eq_cond, fld_eq_flag, fld_eq_slot,
      fld_eq_dag] at h
    obtain ⟨rfl, rfl, hc, rfl, rfl, top⟩ := h
    rewrite [decodeNat_eq_other group, decodeOther, op]
    exact bind_eq_of_ok hc (ends_ok.2 ⟨top, rfl⟩)
  case rts | rtsLr | rti =>
    obtain ⟨group, op, h⟩ := h
    simp only [Reads, List.append_eq, List.nil_append, fld_eq_cond, fld_eq_flag, fld_eq_slot] at h
    obtain ⟨rfl, rfl, hc, top⟩ := h
    rewrite [decodeNat_eq_other group, decodeOther, op]
    exact bind_eq_of_ok hc (ends_ok.2 ⟨top, rfl⟩)
  case jumpLa => exact decodeNat_jumpLa wf h
  case jumpCi => exact decodeNat_jumpCi wf h
  case doAbs | doRel =>
    obtain ⟨group, op, h⟩ := h
    simp only [Reads, List.append_eq, List.nil_append, fld_eq_cond, fld_eq_data] at h
    obtain ⟨rfl, rfl, top⟩ := h
    rewrite [decodeNat_eq_other group, decodeOther, op]
    exact ends_ok.2 ⟨top, rfl⟩
  case doCountImm count d =>
    obtain ⟨addr, term⟩ := d
    obtain ⟨small, lce⟩ := (Bool.and_eq_true _ _).mp wf
    obtain rfl := eq_of_beq lce
    obtain ⟨group, op, h⟩ := h
    simp only [Reads, List.append_eq, List.nil_append, fld_eq_data] at h
    obtain ⟨rfl, hcount, top⟩ := h
    obtain rfl := count_of_small (of_decide_eq_true small) hcount
    rewrite [decodeNat_eq_other group, decodeOther, op]
    exact ends_ok.2 ⟨top, rfl⟩
  case doCountUreg src d =>
    obtain ⟨addr, term⟩ := d
    obtain ⟨group, op, h⟩ := h
    simp only [Reads, List.append_eq, List.nil_append, fld_eq_data, fld_eq_ureg, fld_eq_cond] at h
    obtain ⟨rfl, hu, rfl, top⟩ := h
    rewrite [decodeNat_eq_other group, decodeOther, op]
    exact bind_eq_of_ok hu (ends_ok.2 ⟨top, rfl⟩)
  case bitSet | bitClr | bitTgl | bitTst | bitXor =>
    obtain ⟨group, op, h⟩ := h
    simp only [Reads, List.append_eq, List.nil_append, fld_eq_sreg, fld_eq_data] at h
    obtain ⟨hr, rfl, top⟩ := h
    rewrite [decodeNat_eq_other group, decodeOther, op]
    exact bind_eq_of_ok hr (ends_ok.2 ⟨top, rfl⟩)
  case pushLoop | popLoop =>
    obtain ⟨group, op, h⟩ := h
    simp only [Reads, List.append_eq, List.nil_append, fld_eq_stackOp] at h
    obtain ⟨ha, hb, top⟩ := h
    rewrite [decodeNat_eq_other group, decodeOther, op]
    exact bind_eq_of_ok ha (bind_eq_of_ok hb (ends_ok.2 ⟨top, rfl⟩))
  case pushSts | popSts =>
    obtain ⟨group, op, h⟩ := h
    simp only [Reads, List.append_eq, List.nil_append, fld_eq_stackOp] at h
    obtain ⟨ha, top⟩ := h
    rewrite [decodeNat_eq_other group, decodeOther, op]
    exact bind_eq_of_ok ha (ends_ok.2 ⟨top, rfl⟩)
  case pushPcstk | popPcstk | idle16 | idle | nop =>
    obtain ⟨group, op, top⟩ := h
    rewrite [decodeNat_eq_other group, decodeOther, op]
    exact ends_ok.2 ⟨top, rfl⟩
  -- what is left are the computations alone
  all_goals exact decodeNat_alone h ⟨_, rfl, rfl⟩

end

/-! A word is wide enough for every instruction. -/

theorem relFields_width_le (k : Nat) (cond : Cond) (mods : List (Nat × Nat)) (off : A24) (c : Option Compute) :
    ((relFields k cond mods off c).map Prod.fst).sum ≤ 43 + (mods.map Prod.fst).sum := by
  cases c <;> simp [relFields, head] <;> omega

theorem targetFields_width_le (k : Nat) (cond : Cond) (mods : List (Nat × Nat)) (t : Target) (c : Option Compute) :
    ((targetFields k cond mods t c).map Prod.fst).sum ≤ 43 + (mods.map Prod.fst).sum := by
  cases t with
  | abs addr => simp [targetFields, absFields, head]; omega
  | rel off => exact relFields_width_le (k + 1) cond mods off c
  | ind m i => simp [targetFields, indFields, head]; omega

theorem alone_width_le {i : Instr} (hi : ∃ c, i.fields = aloneFields c ∧ i = .ofCompute c) :
    (i.fields.map Prod.fst).sum ≤ 48 := by
  obtain ⟨c, hf, -⟩ := hi
  rw [hf]
  exact Nat.le_of_ble_eq_true rfl

theorem Instr.width_le (i : Instr) : (i.fields.map Prod.fst).sum ≤ 48 := by
  cases i
  case jumpRel | callRel => exact (relFields_width_le _ _ _ _ _).trans (by simp)
  case jumpLa | jumpCi => exact (targetFields_width_le _ _ _ _ _).trans (by simp)
  case uregMove | loadImm | ldDmPost | stDmPost | ldPmPost | stPmPost | ldDmPre | stDmPre | ldPmPre | stPmPre |
      ldDmAbs | stDmAbs | ldPmAbs | stPmAbs | dualMove | compute | jumpAbs | jumpInd | callAbs | callInd | rts |
      rtsLr | rti | doAbs | doRel | doCountImm | doCountUreg | bitSet | bitClr | bitTgl | bitTst | bitXor |
      pushLoop | popLoop | pushSts | popSts | pushPcstk | popPcstk | idle16 | idle | nop =>
    exact Nat.le_of_ble_eq_true rfl
  -- what is left are the computations alone
  all_goals exact alone_width_le ⟨_, rfl, rfl⟩

theorem encode_toNat (i : Instr) : (encode i).toNat = pack i.fields := by
  rw [encode, BitVec.toNat_ofNat]
  exact Nat.mod_eq_of_lt (pack_lt_of_width_le i.width_le)

/-- Settles O10: the word an instruction is packed into reads as its fields, and the decoder takes its operands from
them. -/
theorem decodeOfEncode : Obligations.DecodeOfEncode := by
  intro i wf
  rw [decode, encode_toNat]
  exact decodeNat_of_reads wf (reads_pack i.fields)

/-- Settles O11: an accepted word reads as the fields of its instruction, and so is the word packed of them. -/
theorem encodeOfDecode : Obligations.EncodeOfDecode := by
  intro w i h
  have fields : Reads w.toNat 0 i.fields := decodeNat_reads (Nat.div_eq_of_lt w.isLt) i h
  rw [encode, fields.pack_eq, BitVec.ofNat_toNat, BitVec.setWidth_eq]

/-- Settles O12: each word is decoded as it stands. -/
theorem wordsDecodeAsWritten : Obligations.WordsDecodeAsWritten := by
  unfold Obligations.WordsDecodeAsWritten
  exact ⟨rfl, rfl, rfl, rfl, rfl, rfl, rfl, rfl, rfl, rfl, rfl, rfl, rfl, rfl, rfl, rfl, rfl⟩

end Sys2Proof

namespace Sys2Proof.Machine

/-! The computations alone and under a condition (R146, R147). -/

/-- A conditional instruction goes on wherever the sequencer does, with the effect where the condition holds. -/
theorem completes_of_conditional {i : Instr} {c : Cond} {s : State} {f : State → Res State} {g : State → State}
    (hi : exec i s = conditional c s id f) (hs : flowReady s = true) (may : mayTest c s = true)
    (hg : ∀ t, sequenced s = .ok t → (if condition s c then f t else .ok t) = .ok (g t)) : completes i s g := by
  obtain ⟨t, ht⟩ := sequenced_of_flowReady hs
  exact ⟨t, ht, (sequenced_frame ht).1, hi ▸ conditional_next.2 ⟨may, t, ht, hg t ht⟩⟩

/-- Only a dual add/subtract with one destination for both results has no effect (R371, U24). -/
theorem computeEffect_of_wf {c : Compute} (wf : c.wf = true) (s : State) : ∃ e, computeEffect c s = .ok e := by
  cases c
  case dualAddSub | dualFAddSub =>
    exact ⟨_, if_neg (bne_iff_ne.1 wf)⟩
  case mulRWithDual | fMulWithDual =>
    exact ⟨_, map_ok.2 ⟨_, if_neg (bne_iff_ne.1 wf), rfl⟩⟩
  all_goals exact ⟨_, rfl⟩

/-- Settles O20: a well-formed computation has an effect, and it lands on the sequenced state in either form; under a
false condition the sequenced state is the next one. -/
theorem computationsComplete : Obligations.ComputationsComplete := by
  intro c s wf hs
  obtain ⟨e, he⟩ := computeEffect_of_wf wf s
  refine ⟨e, he, computes_of_computeEffect hs he, fun cond may => ⟨fun holds => ?_, fun fails => ?_⟩⟩
  · exact completes_of_conditional rfl hs may fun t _ => by rw [if_pos holds, he]; rfl
  · exact completes_of_conditional rfl hs may fun t _ => if_neg (by rw [fails]; decide)

end Sys2Proof.Machine
end

-- Proofs of the statements of 40_alu_fixed.md.
section
/-! SUPPORT. The fixed-point ALU over the integers: its adder, and the flags of its results. -/

namespace Sys2Proof.Machine

/-- A computation alone runs with its effect in any form it can be written. -/
theorem computes_of_effect_eq {c : Compute} {s : State} {e e' : Effect} (hs : flowReady s = true)
    (he : computeEffect c s = .ok e) (h : e = e') : computes (.ofCompute c) s e' :=
  computes_of_computeEffect hs (h ▸ he)

/-! The flags of a result (R171). -/

theorem getLsbD_top_eq_decide_neg {k : Nat} (v : BitVec (k + 1)) : v.getLsbD k = decide (v.toInt < 0) := by
  rw [← BitVec.msb_eq_toInt, BitVec.msb_eq_getLsbD_last, Nat.add_sub_cancel]

theorem bitOf_top_eq_decide_neg (r : W32) : bitOf r 31 = decide (r.toInt < 0) := getLsbD_top_eq_decide_neg r

@[simp] theorem flagBit_false (k : Nat) : flagBit k false = 0 := rfl

/-- A fixed-point result put in Rn, in the words of the claims. -/
theorem toReg_fixedFlags (n : Reg) (r : W32) (av ac as : Bool) (sticky : W32) :
    Effect.toReg n (put32 r) (aluOut (fixedFlags r av ac as) sticky) = fixedEffect n r av ac as sticky := by
  simp [Effect.toReg, aluOut, fixedFlags, AluFlags.word, fixedEffect, bitOf_top_eq_decide_neg]

theorem overflowSticky_eq (av : Bool) : aluSticky false false av false = if av then 0x00000004 else 0 := by
  cases av <;> rfl

/-! The adder (R172). -/

theorem toInt_not (a : W32) : (~~~a).toInt = -a.toInt - 1 := by
  simp only [BitVec.toInt_eq_toNat_cond, BitVec.toNat_not]
  have := a.isLt
  split <;> split <;> omega

theorem wide32_iff (z : Int) : wide32 z = true ↔ z < -2 ^ 31 ∨ 2 ^ 31 ≤ z := decide_eq_true_iff

/-- The two top bits of a 33-bit word differ exactly when its value does not fit 32 bits. -/
theorem topBits_differ_eq_wide32 (v : BitVec 33) : (v.getLsbD 32 != v.getLsbD 31) = wide32 v.toInt := by
  have := v.isLt
  rw [Bool.eq_iff_iff, wide32_iff, BitVec.toInt_eq_toNat_cond]
  simp only [bne_iff_ne, ne_eq, BitVec.getLsbD, Nat.testBit_eq_decide_div_mod_eq, decide_eq_decide]
  split <;> omega

/-- The adder's signed sum: 33 bits hold it exactly. -/
theorem toInt_signedSum (a b : W32) (c : Bool) :
    (a.signExtend 33 + b.signExtend 33 + if c then 1 else 0).toInt = a.toInt + b.toInt + c.toNat := by
  have ha : (a.signExtend 33).toInt = a.toInt := BitVec.toInt_signExtend_of_le (by decide)
  have hb : (b.signExtend 33).toInt = b.toInt := BitVec.toInt_signExtend_of_le (by decide)
  have := a.toInt_lt
  have := a.le_toInt
  have := b.toInt_lt
  have := b.le_toInt
  have hc : (if c then 1 else 0 : BitVec 33).toInt = c.toNat := by cases c <;> rfl
  have := c.toNat_le
  rw [BitVec.toInt_add, BitVec.toInt_add, ha, hb, hc]
  simp only [Int.bmod_def]
  omega

/-- The carry out of the adder: the unsigned sum needs bit 32. -/
theorem unsignedSum_carry (a b : W32) (c : Bool) :
    (a.setWidth 33 + b.setWidth 33 + if c then 1 else 0).getLsbD 32 =
      decide (2 ^ 32 ≤ a.toNat + b.toNat + c.toNat) := by
  have hc : (if c then 1 else 0 : BitVec 33).toNat = c.toNat := by cases c <;> rfl
  have := a.isLt
  have := b.isLt
  have := c.toNat_le
  simp only [BitVec.getLsbD, Nat.testBit_eq_decide_div_mod_eq, BitVec.toNat_add, BitVec.toNat_setWidth, hc,
    decide_eq_decide]
  omega

theorem setWidth_eq_ofInt (v : BitVec 33) : v.setWidth 32 = BitVec.ofInt 32 v.toInt := by
  apply BitVec.eq_of_toInt_eq
  have := v.isLt
  rw [BitVec.toInt_ofInt, BitVec.toInt_setWidth, BitVec.toInt_eq_toNat_cond]
  simp only [Int.bmod_def]
  split <;> omega

/-- The adder works out the exact sum. -/
theorem add32_eq (s : State) (a b : W32) (c : Bool) :
    add32 (alusat s) a b c = ⟨sumWord s (a.toInt + b.toInt + c.toNat), wide32 (a.toInt + b.toInt + c.toNat),
      decide (2 ^ 32 ≤ a.toNat + b.toNat + c.toNat)⟩ := by
  simp only [add32, saturated, topBits_differ_eq_wide32, setWidth_eq_ofInt, unsignedSum_carry]
  simp only [getLsbD_top_eq_decide_neg, toInt_signedSum, sumWord, Bool.and_eq_true, decide_eq_true_eq]

theorem fixedSum_eq (s : State) (n : Reg) (a b : W32) (c : Bool) :
    fixedSum s n a b c =
      sumEffect s n (a.toInt + b.toInt + c.toNat) (decide (2 ^ 32 ≤ a.toNat + b.toNat + c.toNat)) := by
  simp only [fixedSum, add32_eq, toReg_fixedFlags, overflowSticky_eq, sumEffect]

theorem carryNum_eq (s : State) : carryNum s = (carryIn s).toNat := by
  unfold carryNum
  cases carryIn s <;> rfl

/-- A computation that is the adder's runs with the sum `z` and the carry `p`. -/
theorem computes_sumEffect {c : Compute} {s : State} {n : Reg} {a b : W32} {ci : Bool} {z : Int} {p : Prop}
    [Decidable p] (hs : flowReady s = true) (he : computeEffect c s = .ok (fixedSum s n a b ci))
    (hz : a.toInt + b.toInt + ci.toNat = z) (hp : 2 ^ 32 ≤ a.toNat + b.toNat + ci.toNat ↔ p) :
    computes (.ofCompute c) s (sumEffect s n z (decide p)) := by
  rw [← hz, ← decide_eq_decide.2 hp]
  exact computes_of_effect_eq hs he (fixedSum_eq s n a b ci)

/-- Settles O22: a difference adds the complement, whose value is `-b - 1`, with the carry that makes up for the 1. -/
theorem fixedSumResults : Obligations.FixedSumResults := by
  intro s n x y hs a b c
  have ha : a.toNat < 2 ^ 32 := a.isLt
  have hb : b.toNat < 2 ^ 32 := b.isLt
  have hc : c = (carryIn s).toNat := carryNum_eq s
  have ones : (0xFFFFFFFF : W32).toInt = -1 ∧ (0xFFFFFFFF : W32).toNat = 2 ^ 32 - 1 := by decide
  have zero : (0 : W32).toInt = 0 ∧ (0 : W32).toNat = 0 := by decide
  refine ⟨computes_sumEffect (c := .rAdd n x y) (a := a) (b := b) hs rfl ?_ ?_,
    computes_sumEffect (c := .rSub n x y) (a := a) (b := ~~~b) hs rfl ?_ ?_,
    computes_sumEffect (c := .rAddCi n x y) (a := a) (b := b) hs rfl ?_ ?_,
    computes_sumEffect (c := .rSubCi n x y) (a := a) (b := ~~~b) hs rfl ?_ ?_,
    computes_sumEffect (c := .rPlusCi n x) (a := a) (b := 0) hs rfl ?_ ?_,
    computes_sumEffect (c := .rPlusCiLess1 n x) (a := a) (b := 0xFFFFFFFF) hs rfl ?_ ?_,
    computes_sumEffect (c := .rInc n x) (a := a) (b := 0) hs rfl ?_ ?_,
    computes_sumEffect (c := .rDec n x) (a := a) (b := 0xFFFFFFFF) hs rfl ?_ ?_,
    computes_sumEffect (c := .rNeg n x) (a := 0) (b := ~~~a) hs rfl ?_ ?_⟩
  all_goals simp only [toInt_not, BitVec.toNat_not, ones, zero, Bool.toNat_true, Bool.toNat_false, ← hc] <;> omega

/-! Pass, the logical operations, minimum and maximum (R185 to R191). -/

theorem fixedPlain_eq (n : Reg) (r : W32) : fixedPlain n r = fixedEffect n r false false false 0 :=
  toReg_fixedFlags n r false false false 0

theorem fixedPlain_flags (n : Reg) (r : W32) : fixedPlain n r = ⟨[(n, r ++ (0 : BitVec 8))], none,
    ⟨0x0000043F, (if r = 0 then 0x00000001 else 0) ||| (if r.getLsbD 31 then 0x00000004 else 0), 0⟩⟩ := by
  simp only [fixedPlain_eq, fixedEffect, ← getLsbD_top_eq_decide_neg, flagBit, beq_iff_eq]
  simp [put32, aluMask]

theorem slt_select_eq_min (a b : W32) : (if a.slt b then a else b) = BitVec.ofInt 32 (min a.toInt b.toInt) := by
  simp only [BitVec.slt_iff_toInt_lt]
  split
  · next h => rw [min_eq_left h.le, BitVec.ofInt_toInt]
  · next h => rw [min_eq_right (not_lt.1 h), BitVec.ofInt_toInt]

theorem slt_select_eq_max (a b : W32) : (if b.slt a then a else b) = BitVec.ofInt 32 (max a.toInt b.toInt) := by
  simp only [BitVec.slt_iff_toInt_lt]
  split
  · next h => rw [max_eq_left h.le, BitVec.ofInt_toInt]
  · next h => rw [max_eq_right (not_lt.1 h), BitVec.ofInt_toInt]

/-- Settles O23: each operation is its word put in Rn with the flags of that word. -/
theorem fixedLogicResults : Obligations.FixedLogicResults := by
  intro s n x y hs a b leaves
  have plain {c : Compute} {r w : W32} (he : computeEffect c s = .ok (fixedPlain n r)) (h : r = w) :
      computes (.ofCompute c) s (leaves w) := computes_of_effect_eq hs he (h ▸ fixedPlain_flags n r)
  exact ⟨plain (c := .rPass n x) rfl rfl, plain (c := .rAnd n x y) rfl rfl, plain (c := .rOr n x y) rfl rfl,
    plain (c := .rXor n x y) rfl rfl, plain (c := .rNot n x) rfl rfl,
    plain (c := .rMin n x y) rfl (slt_select_eq_min a b), plain (c := .rMax n x y) rfl (slt_select_eq_max a b)⟩

/-! The absolute value (R184). -/

theorem magnitude_eq (x : W32) : magnitude x = BitVec.ofInt 32 |x.toInt| := by
  simp only [magnitude, bitOf_top_eq_decide_neg, decide_eq_true_eq]
  split
  · next neg => rw [abs_of_neg neg, BitVec.ofInt_neg, BitVec.ofInt_toInt, zero_sub]
  · next nonneg => rw [abs_of_nonneg (not_lt.1 nonneg), BitVec.ofInt_toInt]

/-- Only the least number has a magnitude that does not fit. -/
theorem wide32_abs (x : W32) : wide32 |x.toInt| = (x == 0x80000000) := by
  have lo := x.le_toInt
  have hi := x.toInt_lt
  have least : x = 0x80000000 ↔ x.toInt = -2 ^ 31 := by rw [← BitVec.toInt_inj]; rfl
  rw [Bool.eq_iff_iff, wide32_iff, beq_iff_eq, least, Int.abs_eq_natAbs]
  omega

theorem compRAbs_eq (n x : Reg) (s : State) :
    compRAbs n x s = fixedEffect n (sumWord s |(regFx s x).toInt|) (wide32 |(regFx s x).toInt|) false
      (decide ((regFx s x).toInt < 0)) (if wide32 |(regFx s x).toInt| then 0x00000004 else 0) := by
  have nonneg : ¬ |(regFx s x).toInt| < 0 := not_lt.2 (abs_nonneg _)
  simp only [compRAbs, toReg_fixedFlags, overflowSticky_eq, bitOf_top_eq_decide_neg, ← wide32_abs, magnitude_eq,
    sumWord, if_neg nonneg, Bool.and_eq_true]

/-! The average (R177). -/

theorem halfWord_eq (v : BitVec 33) : v.extractLsb' 1 32 = BitVec.ofInt 32 (v.toInt / 2) := by
  apply BitVec.eq_of_toNat_eq
  have := v.isLt
  rw [BitVec.extractLsb'_toNat, BitVec.toNat_ofInt, BitVec.toInt_eq_toNat_cond, Nat.shiftRight_eq_div_pow]
  split <;> omega

theorem lowBits_eq_decide (v : BitVec 33) :
    v.getLsbD 0 = decide (v.toInt % 2 = 1) ∧ v.getLsbD 1 = decide (v.toInt / 2 % 2 = 1) := by
  simp only [BitVec.getLsbD, Nat.testBit_eq_decide_div_mod_eq, BitVec.toInt_eq_toNat_cond, decide_eq_decide]
  split <;> omega

theorem average_eq (truncate : Bool) (x y : W32) :
    average truncate x y = BitVec.ofInt 32 (halved truncate (x.toInt + y.toInt)) := by
  have sum : (x.signExtend 33 + y.signExtend 33).toInt = x.toInt + y.toInt := by
    simpa using toInt_signedSum x y false
  simp only [average, halved, halfWord_eq, lowBits_eq_decide, sum, Bool.and_eq_true,
    Bool.not_eq_true', decide_eq_true_eq, and_assoc]
  split
  · rw [BitVec.ofInt_add]; rfl
  · exact BitVec.add_zero _

theorem fixedAverage_reference {s : State} {n : Reg} {x y : W32} (h : s.cfg.numerics = []) :
    fixedAverage s n x y = fixedEffect n (BitVec.ofInt 32 (halved (trunc s) (x.toInt + y.toInt))) false
      (decide (2 ^ 32 ≤ x.toNat + y.toNat)) false 0 := by
  have carry : (add32 false x y false).ac = decide (2 ^ 32 ≤ x.toNat + y.toNat) := unsignedSum_carry x y false
  simp only [fixedAverage, averaged_reference h, average_eq, carry, toReg_fixedFlags]

/-! CLIP (R192). -/

theorem compRClip_reference {s : State} {n x y : Reg} (h : s.cfg.numerics = []) :
    compRClip n x y s = fixedEffect n (clip (regFx s x) (regFx s y)) false false false 0 := by
  simp only [compRClip, numeric_reference h, FOut.ofInt, fx_put32, fixedPlain_eq]

theorem clip_minimum (x : W32) : clip x 0x80000000 = Config.clipByMinimum x := if_pos rfl

theorem clip_of_abs_lt {x y : W32} (hy : y ≠ 0x80000000) (h : |x.toInt| < |y.toInt|) : clip x y = x := by
  rw [clip, if_neg hy, if_pos (by zify; exact h)]

theorem clip_of_abs_le {x y : W32} (hy : y ≠ 0x80000000) (h : |y.toInt| ≤ |x.toInt|) :
    clip x y = BitVec.ofInt 32 (if x.toInt < 0 then -|y.toInt| else |y.toInt|) := by
  rw [clip, if_neg hy, if_neg (by zify; exact not_lt.2 h)]
  simp only [magnitude_eq, bitOf_top_eq_decide_neg, decide_eq_true_eq]
  split
  · rw [BitVec.ofInt_neg, zero_sub]
  · rfl

/-! COMP (R178). -/

theorem caccAfter_eq (astat : W32) (greater : Bool) :
    caccAfter astat greater = ((astat >>> 1) &&& 0x7F000000) ||| flagBit 31 greater := by
  rw [caccAfter, BitVec.ushiftRight_and_distrib]
  rfl

theorem compRComp_reference {s : State} {x y : Reg} (h : s.cfg.numerics = []) :
    compRComp x y s = ⟨[], none, ⟨aluMask ||| caccMask,
      flagBit 0 (decide ((regFx s x).toInt = (regFx s y).toInt)) |||
        flagBit 2 (decide ((regFx s x).toInt < (regFx s y).toInt)) ||| ((effAstat s >>> 1) &&& 0x7F000000) |||
        flagBit 31 (decide ((regFx s y).toInt < (regFx s x).toInt)), 0⟩⟩ := by
  have equal : (regFx s x == regFx s y) = decide ((regFx s x).toInt = (regFx s y).toInt) := by
    rw [Bool.eq_iff_iff, beq_iff_eq, decide_eq_true_eq, BitVec.toInt_inj]
  simp [compRComp, Effect.flagsOnly, compareOut, AluFlags.word, numeric_reference h, equal, BitVec.slt_eq_decide,
    caccAfter_eq, BitVec.or_assoc]

/-- Settles O24: the results of the four operations, one lemma each, and the three ranges of CLIP. -/
theorem fixedOperationResults : Obligations.FixedOperationResults := by
  intro s n x y hs a b
  refine ⟨computes_of_effect_eq (c := .rAbs n x) hs rfl (compRAbs_eq n x s), fun hn => ?_⟩
  have clipped {w : W32} (h : clip a b = w) : computes (.rClip n x y) s (fixedEffect n w false false false 0) :=
    computes_of_effect_eq (c := .rClip n x y) hs rfl (h ▸ compRClip_reference hn)
  exact ⟨computes_of_effect_eq (c := .rAvg n x y) hs rfl (fixedAverage_reference hn),
    fun hb h => clipped (clip_of_abs_lt hb h), fun hb h => clipped (clip_of_abs_le hb h),
    fun hb => clipped (hb ▸ clip_minimum a),
    computes_of_effect_eq (c := .rComp x y) hs rfl (compRComp_reference hn)⟩

end Sys2Proof.Machine
end

-- Proofs of the statements of 41_alu_float.md.
section
/-! SUPPORT. Floating point over the rationals: the fields of a word, exact sums, rounding and delivery, and the flags of the
ALU's results. -/

namespace Sys2Proof.Machine

/-! The fields of a 40-bit word (R210). -/

/-- The fields of a word in its number. -/
theorem toNat_eq_fields (v : W40) : v.toNat = 2 ^ 39 * (fSign v).toNat + 2 ^ 31 * fExp v + fFrac v := by
  have := v.isLt
  simp only [fSign, fExp, fFrac, BitVec.getLsbD, Nat.toNat_testBit, BitVec.extractLsb'_toNat, Nat.shiftRight_eq_div_pow]
  omega

theorem fExp_lt (v : W40) : fExp v < 2 ^ 8 := BitVec.isLt _

theorem fFrac_lt (v : W40) : fFrac v < 2 ^ 31 := BitVec.isLt _

/-- The number of a word determines its fields. -/
theorem fields_unique {v : W40} {neg : Bool} {exp frac : Nat} (he : exp < 2 ^ 8) (hf : frac < 2 ^ 31)
    (h : v.toNat = 2 ^ 39 * neg.toNat + 2 ^ 31 * exp + frac) : fSign v = neg ∧ fExp v = exp ∧ fFrac v = frac := by
  have word := toNat_eq_fields v
  have := fExp_lt v
  have := fFrac_lt v
  have sign : (fSign v).toNat = neg.toNat := by omega
  exact ⟨by rw [Bool.eq_iff_iff, ← Bool.toNat_eq_one, ← Bool.toNat_eq_one, sign], by omega, by omega⟩

theorem fWord_toNat (neg : Bool) {exp frac : Nat} (he : exp < 2 ^ 8) (hf : frac < 2 ^ 31) :
    (fWord neg exp frac).toNat = 2 ^ 39 * neg.toNat + 2 ^ 31 * exp + frac := by
  have sign : (if neg then 1 else 0 : BitVec 1).toNat = neg.toNat := by cases neg <;> rfl
  have hn := neg.toNat_lt
  simp only [fWord, BitVec.toNat_append, sign, BitVec.toNat_ofNat, Nat.mod_eq_of_lt he, Nat.mod_eq_of_lt hf]
  rw [← Nat.shiftLeft_add_eq_or_of_lt he, ← Nat.shiftLeft_add_eq_or_of_lt hf]
  simp only [Nat.shiftLeft_eq]
  omega

/-- A word gives back the fields it was made of. -/
theorem fields_fWord (neg : Bool) {exp frac : Nat} (he : exp < 2 ^ 8) (hf : frac < 2 ^ 31) :
    fSign (fWord neg exp frac) = neg ∧ fExp (fWord neg exp frac) = exp ∧ fFrac (fWord neg exp frac) = frac :=
  fields_unique he hf (fWord_toNat neg he hf)

@[simp] theorem fSign_setSign (v : W40) (neg : Bool) : fSign (setSign v neg) = neg :=
  (fields_fWord neg (fExp_lt v) (fFrac_lt v)).1

@[simp] theorem fExp_setSign (v : W40) (neg : Bool) : fExp (setSign v neg) = fExp v :=
  (fields_fWord neg (fExp_lt v) (fFrac_lt v)).2.1

@[simp] theorem fFrac_setSign (v : W40) (neg : Bool) : fFrac (setSign v neg) = fFrac v :=
  (fields_fWord neg (fExp_lt v) (fFrac_lt v)).2.2

@[simp] theorem setSign_setSign (v : W40) (p q : Bool) : setSign (setSign v p) q = setSign v q := by
  rw [setSign, fExp_setSign, fFrac_setSign, ← setSign]

theorem clearLow8_toNat (v : W40) : (clearLow8 v).toNat = v.toNat / 256 * 256 := by
  have := v.isLt
  simp only [clearLow8, put32, fx, BitVec.toNat_append, BitVec.extractLsb'_toNat, Nat.shiftRight_eq_div_pow]
  simp [Nat.shiftLeft_eq]
  omega

/-- The fields of a word with its low eight bits cleared. -/
theorem fields_clearLow8 (v : W40) : fSign (clearLow8 v) = fSign v ∧ fExp (clearLow8 v) = fExp v ∧
    fFrac (clearLow8 v) = fFrac v / 256 * 256 := by
  have word := toNat_eq_fields v
  have frac := fFrac_lt v
  exact fields_unique (fExp_lt v) (by omega) (by rw [clearLow8_toNat]; omega)

theorem low8_clearLow8 (v : W40) : (clearLow8 v).extractLsb' 0 8 = 0 := by
  apply BitVec.eq_of_toNat_eq
  simp [clearLow8_toNat]

/-! The class of a word (R211). -/

/-- An operand's class with the sign replaced. -/
def FVal.withSign (neg : Bool) : FVal → FVal
  | .nan => .nan
  | .inf _ => .inf neg
  | .num v => .num { v with neg := neg }

theorem classify_setSign (v : W40) (neg : Bool) : classify (setSign v neg) = (classify v).withSign neg := by
  unfold classify
  simp only [fExp_setSign, fFrac_setSign, fSign_setSign]
  split
  · split <;> rfl
  · split <;> rfl

/-- A finite word: its sign, its significand and its exponent. -/
theorem classify_num {v : W40} {a : Fin2} (h : classify v = .num a) :
    a.neg = fSign v ∧ fExp v < 255 ∧
      (fExp v = 0 ∧ a.m = 0 ∨ 0 < fExp v ∧ a.m = 2 ^ 31 + fFrac v ∧ a.e = (fExp v : Int) - 158) := by
  have := fExp_lt v
  unfold classify at h
  split at h
  · split at h <;> cases h
  · split at h
    · next h0 => cases h; exact ⟨rfl, by omega, .inl ⟨h0, rfl⟩⟩
    · cases h; exact ⟨rfl, by omega, .inr ⟨by omega, rfl, rfl⟩⟩

theorem classify_inf {v : W40} {p : Bool} (h : classify v = .inf p) : p = fSign v := by
  unfold classify at h
  split at h
  · split at h <;> cases h; rfl
  · split at h <;> cases h

/-- A normal word by its fields. -/
theorem classify_of_normal {v : W40} (h0 : 0 < fExp v) (h1 : fExp v < 255) :
    classify v = .num ⟨fSign v, 2 ^ 31 + fFrac v, (fExp v : Int) - 158⟩ := by
  rw [classify, if_neg h1.ne, if_neg h0.ne']

theorem classify_fZero (p : Bool) : classify (fZero p) = .num ⟨p, 0, 0⟩ := by cases p <;> decide

theorem isNan_iff {v : W40} : isNan v = true ↔ classify v = .nan := beq_iff_eq

/-- Negation of a word: the class with the other sign (R221, R226). -/
theorem classify_fNegate (v : W40) : classify (fNegate v) = (classify v).withSign (!fSign v) := classify_setSign v _

@[simp] theorem isNan_setSign (v : W40) (neg : Bool) : isNan (setSign v neg) = isNan v := by
  rw [Bool.eq_iff_iff, isNan_iff, isNan_iff, classify_setSign]
  cases classify v <;> simp [FVal.withSign]

@[simp] theorem isNan_fNegate (v : W40) : isNan (fNegate v) = isNan v := isNan_setSign v _

/-! The values of finite operands as rationals. -/

theorem two_zpow_pos (e : Int) : (0 : ℚ) < 2 ^ e := zpow_pos (by norm_num) e

theorem two_zpow_add (a b : Int) : (2 : ℚ) ^ (a + b) = 2 ^ a * 2 ^ b := zpow_add₀ (by norm_num) a b

/-- The scaled integer is the value in units of `2 ^ lo`. -/
theorem scaled_mul_zpow (v : Fin2) {lo : Int} (h : lo ≤ v.e) : (v.scaled lo : ℚ) * 2 ^ lo = v.rat := by
  obtain ⟨d, hd⟩ := Int.eq_ofNat_of_zero_le (sub_nonneg.2 h)
  have unit : (2 : ℚ) ^ v.e = 2 ^ d * 2 ^ lo := by
    rw [show v.e = d + lo by omega, two_zpow_add, zpow_natCast]
  simp only [Fin2.scaled, Fin2.rat, hd, Int.toNat_natCast, unit]
  cases v.neg <;> simp [mul_assoc]

theorem add_rat (a b : Fin2) : (a.add b).rat = a.rat + b.rat := by
  have ha := scaled_mul_zpow a (min_le_left a.e b.e)
  have hb := scaled_mul_zpow b (min_le_right a.e b.e)
  rw [← ha, ← hb, ← add_mul, ← Int.cast_add]
  simp only [Fin2.add]
  split
  · next zero => simp [zero, Fin2.rat]
  · simp only [Fin2.rat, decide_eq_true_eq, ← Int.cast_natCast (R := ℚ), Int.natCast_natAbs]
    split
    · next neg => simp [abs_of_neg neg]
    · next nonneg => simp [abs_of_nonneg (not_lt.1 nonneg)]

theorem mul_rat (a b : Fin2) : (a.mul b).rat = a.rat * b.rat := by
  obtain ⟨p, m, e⟩ := a
  obtain ⟨q, n, f⟩ := b
  simp only [Fin2.mul, Fin2.rat, two_zpow_add, Nat.cast_mul]
  cases p <;> cases q <;> simp <;> ring

theorem scale_rat (a : Fin2) (k : Int) : (a.scale k).rat = a.rat * 2 ^ k := by
  rw [Fin2.rat, Fin2.rat, mul_assoc _ _ ((2 : ℚ) ^ k), ← two_zpow_add]
  rfl

theorem lt_iff_rat (a b : Fin2) : Fin2.lt a b = true ↔ a.rat < b.rat := by
  rw [← scaled_mul_zpow a (min_le_left a.e b.e), ← scaled_mul_zpow b (min_le_right a.e b.e),
    mul_lt_mul_iff_left₀ (two_zpow_pos _), Int.cast_lt, Fin2.lt, decide_eq_true_eq]

/-- Settles O34: each operation brings its operands to one exponent and works on integers there. -/
theorem finiteArithmeticIsExact : Obligations.FiniteArithmeticIsExact := fun a b k =>
  ⟨add_rat a b, mul_rat a b, scale_rat a k, lt_iff_rat a b⟩

/-- The magnitude of a value. -/
theorem abs_rat (v : Fin2) : |v.rat| = (v.m : ℚ) * 2 ^ v.e := by
  have := (two_zpow_pos v.e).le
  rw [Fin2.rat]
  cases v.neg <;> simp [abs_mul, abs_of_nonneg this]

/-! Rounding (R213). -/

/-- Dropping bits: the quotient, or one more where that is nearer. -/
theorem roundShift_bounds (truncate : Bool) (m d : Nat) :
    m / 2 ^ d ≤ roundShift truncate m d ∧ roundShift truncate m d ≤ m / 2 ^ d + 1 := by
  simp only [roundShift]
  split
  · omega
  · split <;> omega

theorem roundShift_truncate (m d : Nat) : roundShift true m d = m / 2 ^ d := rfl

/-- Rounding to nearest in whole numbers: at most half a unit off, and even on a tie. -/
theorem roundShift_nearest (m d : Nat) :
    2 * |(roundShift false m d * 2 ^ d : ℤ) - m| ≤ 2 ^ d ∧
      (2 * |(roundShift false m d * 2 ^ d : ℤ) - m| = 2 ^ d → roundShift false m d % 2 = 0) := by
  have parts : m / 2 ^ d * 2 ^ d + m % 2 ^ d = m := Nat.div_add_mod' m (2 ^ d)
  have rest : m % 2 ^ d < 2 ^ d := Nat.mod_lt _ (by positivity)
  have unit : (2 : ℤ) ^ d = (2 ^ d : Nat) := by norm_cast
  simp only [roundShift, Bool.false_eq_true, if_false, Bool.or_eq_true, decide_eq_true_eq, Bool.and_eq_true,
    beq_iff_eq, Int.abs_eq_natAbs, unit]
  generalize m / 2 ^ d = q at *
  generalize m % 2 ^ d = r at *
  generalize 2 ^ d = u at *
  split
  · next up =>
    have next_unit : ((q + 1 : Nat) : ℤ) * u = q * u + u := by push_cast; ring
    rw [next_unit]
    zify at parts
    omega
  · next down =>
    zify at parts
    omega

/-- The distance of a shifted quotient in whole numbers. -/
theorem roundError_shift (q m d : Nat) (e : Int) :
    roundError q (e + d) m e = (|(q * 2 ^ d : ℤ) - m| : ℤ) * (2 : ℚ) ^ e := by
  have common : (q : ℚ) * 2 ^ (e + d) - m * 2 ^ e = ((q * 2 ^ d : ℤ) - m : ℤ) * (2 : ℚ) ^ e := by
    rw [two_zpow_add, zpow_natCast]
    push_cast
    ring
  rw [roundError, common, abs_mul, abs_of_pos (two_zpow_pos e), Int.cast_abs]

/-- Rounding to nearest is off by at most half a unit, on a tie to the even significand. -/
theorem roundShift_nearest_error (m d : Nat) (e : Int) :
    roundError (roundShift false m d) (e + d) m e ≤ 2 ^ (e + d) / 2 ∧
      (roundError (roundShift false m d) (e + d) m e = 2 ^ (e + d) / 2 → roundShift false m d % 2 = 0) := by
  obtain ⟨near, tie⟩ := roundShift_nearest m d
  have half : (2 : ℚ) ^ (e + d) / 2 = ((2 ^ d : ℤ) : ℚ) / 2 * 2 ^ e := by
    rw [two_zpow_add, zpow_natCast]
    push_cast
    ring
  rw [roundError_shift, half, mul_le_mul_iff_left₀ (two_zpow_pos e), mul_left_inj' (two_zpow_pos e).ne']
  refine ⟨?_, fun h => tie ?_⟩
  · rw [le_div_iff₀ two_pos, mul_comm]
    exact_mod_cast near
  · rw [eq_div_iff two_ne_zero, mul_comm] at h
    exact_mod_cast h

/-- Truncation never exceeds the value and is off by less than a unit. -/
theorem roundShift_truncate_error (m d : Nat) (e : Int) :
    (roundShift true m d : ℚ) * 2 ^ (e + d) ≤ m * 2 ^ e ∧
      roundError (roundShift true m d) (e + d) m e < 2 ^ (e + d) := by
  have below : m / 2 ^ d * 2 ^ d ≤ m := Nat.div_mul_le_self m _
  have above : m < m / 2 ^ d * 2 ^ d + 2 ^ d := Nat.lt_div_mul_add (by positivity)
  have error : |((m / 2 ^ d : Nat) * 2 ^ d : ℤ) - m| < 2 ^ d := by
    have pos : (0 : ℤ) < 2 ^ d := by positivity
    zify at below above
    rw [abs_sub_lt_iff]
    push_cast
    constructor <;> linarith
  rw [roundError_shift, roundShift_truncate, two_zpow_add, zpow_natCast, mul_comm ((2 : ℚ) ^ e), ← mul_assoc,
    mul_le_mul_iff_left₀ (two_zpow_pos e), mul_lt_mul_iff_left₀ (two_zpow_pos e)]
  exact ⟨by exact_mod_cast below, by exact_mod_cast error⟩

/-- What is left of `m` when all but `p` of its bits are dropped has `p` bits. -/
theorem quotient_bits {p m : Nat} (hp : 1 ≤ p) (hm : m ≠ 0) (long : p < m.log2 + 1) :
    2 ^ (p - 1) ≤ m / 2 ^ (m.log2 + 1 - p) ∧ m / 2 ^ (m.log2 + 1 - p) < 2 ^ p := by
  rw [Nat.le_div_iff_mul_le (by positivity), Nat.div_lt_iff_lt_mul (by positivity), ← pow_add, ← pow_add,
    show p - 1 + (m.log2 + 1 - p) = m.log2 by omega, show p + (m.log2 + 1 - p) = m.log2 + 1 by omega]
  exact ⟨Nat.log2_self_le hm, Nat.lt_log2_self⟩

/-- A number of at most `p` bits is only shifted up. -/
theorem roundTo_short {truncate : Bool} {p m : Nat} {e : Int} (short : m.log2 + 1 ≤ p) :
    roundTo truncate p m e = (m * 2 ^ (p - (m.log2 + 1)), e - (p - (m.log2 + 1) : Nat)) := if_pos short

/-- A longer one is shifted down; where that carries into one bit more, the significand is halved again. -/
theorem roundTo_long {truncate : Bool} {p m : Nat} {e : Int} (hp : 1 ≤ p) (hm : m ≠ 0) (long : p < m.log2 + 1) :
    let d := m.log2 + 1 - p
    let q := roundShift truncate m d
    (q = 2 ^ p ∧ truncate = false ∧ roundTo truncate p m e = (2 ^ (p - 1), e + d + 1)) ∨
      (2 ^ (p - 1) ≤ q ∧ q < 2 ^ p ∧ roundTo truncate p m e = (q, e + d)) := by
  intro d q
  have bits : 2 ^ (p - 1) ≤ m / 2 ^ d ∧ m / 2 ^ d < 2 ^ p := quotient_bits hp hm long
  have bounds : m / 2 ^ d ≤ q ∧ q ≤ m / 2 ^ d + 1 := roundShift_bounds truncate m d
  have shape : roundTo truncate p m e = if q = 2 ^ p then (2 ^ (p - 1), e + d + 1) else (q, e + d) :=
    if_neg (Nat.not_le.2 long)
  by_cases carry : q = 2 ^ p
  · refine .inl ⟨carry, ?_, by rw [shape, if_pos carry]⟩
    by_contra cut
    rw [Bool.not_eq_false] at cut
    have : q = m / 2 ^ d := by rw [← roundShift_truncate, ← cut]
    omega
  · exact .inr ⟨by omega, by omega, by rw [shape, if_neg carry]⟩

theorem two_pow_pred {p : Nat} (hp : 1 ≤ p) : 2 ^ p = 2 * 2 ^ (p - 1) := by
  rw [← pow_succ', Nat.sub_add_cancel hp]

/-- The rounded significand has exactly `p` bits. -/
theorem roundTo_bits (truncate : Bool) {p m : Nat} (e : Int) (hp : 1 ≤ p) (hm : m ≠ 0) :
    2 ^ (p - 1) ≤ (roundTo truncate p m e).1 ∧ (roundTo truncate p m e).1 < 2 ^ p := by
  by_cases short : m.log2 + 1 ≤ p
  · have lower : 2 ^ m.log2 ≤ m := Nat.log2_self_le hm
    have upper : m < 2 ^ (m.log2 + 1) := Nat.lt_log2_self
    have bits : p = m.log2 + 1 + (p - (m.log2 + 1)) := by omega
    have pred : p - 1 = m.log2 + (p - (m.log2 + 1)) := by omega
    rw [roundTo_short short]
    refine ⟨?_, ?_⟩
    · rw [pred, pow_add]
      exact Nat.mul_le_mul_right _ (by simpa using lower)
    · conv_rhs => rw [bits, pow_add]
      exact Nat.mul_lt_mul_of_pos_right upper (by positivity)
  · have pow := two_pow_pred hp
    have : 0 < 2 ^ (p - 1) := by positivity
    obtain ⟨_, _, h⟩ | ⟨lower, upper, h⟩ := roundTo_long (truncate := truncate) (e := e) hp hm (not_le.1 short)
    · rw [h]
      exact ⟨le_rfl, by omega⟩
    · rw [h]
      exact ⟨lower, upper⟩

/-- A significand shifted up has the same value. -/
theorem shifted_value (m k : Nat) (e : Int) : ((m * 2 ^ k : Nat) : ℚ) * 2 ^ (e - k) = m * 2 ^ e := by
  rw [zpow_sub₀ two_ne_zero, zpow_natCast]
  push_cast
  field_simp

theorem roundError_short {truncate : Bool} {p m : Nat} {e : Int} (short : m.log2 + 1 ≤ p) :
    let w := roundTo truncate p m e
    (w.1 : ℚ) * 2 ^ w.2 = m * 2 ^ e ∧ roundError w.1 w.2 m e = 0 := by
  have same := shifted_value m (p - (m.log2 + 1)) e
  rw [roundTo_short short]
  exact ⟨same, by rw [roundError, same, sub_self, abs_zero]⟩

/-- The carry keeps the value. -/
theorem carry_value {p : Nat} (hp : 1 ≤ p) (e : Int) :
    ((2 ^ (p - 1) : Nat) : ℚ) * 2 ^ (e + 1) = ((2 ^ p : Nat) : ℚ) * 2 ^ e := by
  rw [two_zpow_add, two_pow_pred hp]
  push_cast
  ring

/-- Rounding to nearest (R213). -/
theorem roundTo_nearest {p m : Nat} (e : Int) (hp : 2 ≤ p) (hm : m ≠ 0) :
    let w := roundTo false p m e
    roundError w.1 w.2 m e ≤ (2 : ℚ) ^ w.2 / 2 ∧
      (roundError w.1 w.2 m e = (2 : ℚ) ^ w.2 / 2 → w.1 % 2 = 0) := by
  intro w
  have unit := two_zpow_pos w.2
  by_cases short : m.log2 + 1 ≤ p
  · obtain ⟨_, exact_value⟩ := roundError_short (truncate := false) (e := e) short
    rw [exact_value]
    exact ⟨by positivity, fun h => by linarith⟩
  · obtain ⟨near, tie⟩ := roundShift_nearest_error m (m.log2 + 1 - p) e
    obtain ⟨full, _, h⟩ | ⟨_, _, h⟩ := roundTo_long (truncate := false) (e := e) (by omega) hm (not_le.1 short)
    · have pow : 2 ^ (p - 1) = 2 * 2 ^ (p - 2) := two_pow_pred (by omega)
      rw [show w = _ from h]
      rw [full, roundError, ← carry_value (by omega), ← roundError] at near
      exact ⟨near.trans (by rw [two_zpow_add _ 1]; have := two_zpow_pos (e + (m.log2 + 1 - p : Nat)); linarith),
        fun _ => by simp only [pow]; omega⟩
    · rw [show w = _ from h]
      exact ⟨near, tie⟩

/-- Truncation (R213). -/
theorem roundTo_truncate {p m : Nat} (e : Int) (hp : 1 ≤ p) (hm : m ≠ 0) :
    let w := roundTo true p m e
    (w.1 : ℚ) * 2 ^ w.2 ≤ m * 2 ^ e ∧ roundError w.1 w.2 m e < (2 : ℚ) ^ w.2 := by
  intro w
  by_cases short : m.log2 + 1 ≤ p
  · obtain ⟨value, exact_value⟩ := roundError_short (truncate := true) (e := e) short
    exact ⟨value.le, exact_value.trans_lt (two_zpow_pos w.2)⟩
  · obtain ⟨_, cut, _⟩ | ⟨_, _, h⟩ := roundTo_long (truncate := true) (e := e) hp hm (not_le.1 short)
    · cases cut
    · rw [show w = _ from h]
      exact roundShift_truncate_error m _ e

/-! Delivery (R214). -/

theorem deliver_zero {truncate : Bool} {p : Nat} {z : Fin2} (h : z.m = 0) :
    deliver truncate p z = ⟨fZero z.neg, false, false⟩ := if_pos h

section
variable {truncate : Bool} {p : Nat} {z : Fin2} (hz : z.m ≠ 0)
include hz

theorem deliver_overflow (h : 128 ≤ (roundTo truncate p z.m z.e).2 + (p - 1 : Nat)) :
    deliver truncate p z = ⟨if truncate then fMaxNormal p z.neg else fInf z.neg, true, false⟩ := by
  rw [deliver, if_neg hz]
  exact if_pos (by omega)

theorem deliver_underflow (h : (roundTo truncate p z.m z.e).2 + (p - 1 : Nat) ≤ -127) :
    deliver truncate p z = ⟨fZero z.neg, false, true⟩ := by
  rw [deliver, if_neg hz]
  exact (if_neg (by omega)).trans (if_pos (by omega))

theorem deliver_normal (lo : -126 ≤ (roundTo truncate p z.m z.e).2 + (p - 1 : Nat))
    (hi : (roundTo truncate p z.m z.e).2 + (p - 1 : Nat) ≤ 127) :
    let w := roundTo truncate p z.m z.e
    deliver truncate p z = ⟨fWord z.neg (w.2 + (p - 1 : Nat) + 127).toNat ((w.1 - 2 ^ (p - 1)) * 2 ^ (32 - p)),
      false, false⟩ := by
  rw [deliver, if_neg hz]
  exact (if_neg (by omega)).trans (if_neg (by omega))

end

theorem low8_fWord (neg : Bool) {exp frac : Nat} (he : exp < 2 ^ 8) (hf : frac < 2 ^ 31) (h : frac % 256 = 0) :
    (fWord neg exp frac).extractLsb' 0 8 = 0 := by
  apply BitVec.eq_of_toNat_eq
  rw [BitVec.extractLsb'_toNat, Nat.shiftRight_zero, fWord_toNat neg he hf]
  simp
  omega

/-- The word of a rounded significand `sig` with `p` bits and a unit of `2 ^ e`. -/
theorem word_of_rounded {p sig : Nat} {e : Int} (neg : Bool) (hp : p = 24 ∨ p = 32) (lower : 2 ^ (p - 1) ≤ sig)
    (upper : sig < 2 ^ p) (lo : -126 ≤ e + (p - 1 : Nat)) (hi : e + (p - 1 : Nat) ≤ 127) :
    ∃ exp frac : Nat, (e + (p - 1 : Nat) + 127).toNat = exp ∧ (sig - 2 ^ (p - 1)) * 2 ^ (32 - p) = frac ∧
      (p = 24 → (fWord neg exp frac).extractLsb' 0 8 = 0) ∧
      ∃ v, classify (fWord neg exp frac) = .num v ∧ v.neg = neg ∧ (v.m : ℚ) * 2 ^ v.e = sig * 2 ^ e := by
  refine ⟨_, _, rfl, rfl, ?_⟩
  generalize hexp : (e + (p - 1 : Nat) + 127).toNat = exp
  generalize hfrac : (sig - 2 ^ (p - 1)) * 2 ^ (32 - p) = frac
  have exp_range : 0 < exp ∧ exp < 255 ∧ (exp : Int) - 158 = e - (32 - p : Nat) := by omega
  have frac_range : frac < 2 ^ 31 ∧ 2 ^ 31 + frac = sig * 2 ^ (32 - p) ∧ (p = 24 → frac % 256 = 0) := by
    obtain rfl | rfl := hp <;> norm_num at lower upper hfrac ⊢ <;> omega
  obtain ⟨e0, e1, unit⟩ := exp_range
  obtain ⟨f1, significand, low⟩ := frac_range
  have e2 : exp < 2 ^ 8 := e1.trans (by norm_num)
  obtain ⟨sign, exp_eq, frac_eq⟩ := fields_fWord neg e2 f1
  have class_eq := classify_of_normal (v := fWord neg exp frac) (by rwa [exp_eq]) (by rwa [exp_eq])
  refine ⟨fun h => low8_fWord _ e2 f1 (low h), _, class_eq, sign, ?_⟩
  simp only [exp_eq, frac_eq, significand, unit]
  exact shifted_value _ _ _

/-- A rounded value in range is delivered as it is. -/
theorem deliver_value {truncate : Bool} {p : Nat} {z : Fin2} (hp : p = 24 ∨ p = 32) (hz : z.m ≠ 0)
    (lo : -126 ≤ (roundTo truncate p z.m z.e).2 + (p - 1 : Nat))
    (hi : (roundTo truncate p z.m z.e).2 + (p - 1 : Nat) ≤ 127) :
    (deliver truncate p z).ovf = false ∧ (deliver truncate p z).unf = false ∧
      (p = 24 → (deliver truncate p z).word.extractLsb' 0 8 = 0) ∧
      ∃ v, classify (deliver truncate p z).word = .num v ∧ v.neg = z.neg ∧
        (v.m : ℚ) * (2 : ℚ) ^ v.e =
          ((roundTo truncate p z.m z.e).1 : ℚ) * (2 : ℚ) ^ (roundTo truncate p z.m z.e).2 := by
  obtain ⟨lower, upper⟩ := roundTo_bits truncate z.e (by omega : 1 ≤ p) hz
  obtain ⟨exp, frac, rfl, rfl, word⟩ := word_of_rounded z.neg hp lower upper lo hi
  rw [deliver_normal hz lo hi]
  exact ⟨rfl, rfl, word⟩

/-- Settles O33: the two ways of rounding, and delivery by the exponent of the rounded significand. -/
theorem roundingAndDeliveryAreCorrect : Obligations.RoundingAndDeliveryAreCorrect := by
  constructor
  · intro p m e hp hm
    have one : 1 ≤ p := one_le_two.trans hp
    obtain ⟨lower, upper⟩ := roundTo_bits false e one hm
    obtain ⟨lower', upper'⟩ := roundTo_bits true e one hm
    exact ⟨⟨lower, upper, roundTo_nearest e hp hm⟩, lower', upper', roundTo_truncate e one hm⟩
  · intro truncate p z hp
    refine ⟨deliver_zero, fun hz h => ?_, deliver_underflow, deliver_value hp⟩
    rw [deliver_overflow hz h]
    exact ⟨rfl, rfl, rfl⟩

/-! A result in the words of the claims (R215, R216). -/

theorem floatOut_invalid (s : State) (n : Reg) (as : Bool) :
    floatOut n ((FOut.invalid s).withSign as) = nanEffect s n as := by
  have sticky : flagBit 5 true = 0x00000020 := rfl
  simp [floatOut, FOut.invalid, FOut.withSign, FOut.flags, FOut.sticky, Effect.toReg, aluOut, AluFlags.word, aluSticky,
    nanEffect, sticky]

theorem floatOut_valued (n : Reg) (w : W40) (av as : Bool) :
    floatOut n ((FOut.valued w av false).withSign as) = wordEffect n w av as := by
  simp [floatOut, FOut.valued, FOut.withSign, FOut.flags, FOut.sticky, Effect.toReg, aluOut, AluFlags.word, aluSticky,
    wordEffect]

theorem floatOut_exact (n : Reg) (w : W40) : floatOut n (.exact w) = wordEffect n w false false :=
  floatOut_valued n w false false

theorem floatOut_delivered (n : Reg) (d : Delivered) : floatOut n (.ofDelivered d) = deliveredEffect n d := by
  simp [floatOut, FOut.ofDelivered, FOut.valued, FOut.flags, FOut.sticky, Effect.toReg, aluOut, AluFlags.word,
    aluSticky, deliveredEffect]

/-- A fixed-point result; MANT's AN and AS are its own. -/
theorem floatOut_integer (n : Reg) (r : W32) (av unf ai an as : Bool) :
    floatOut n { FOut.ofInt r av unf ai with an := an, as := as } =
      integerEffect n r av an as ai (aluSticky unf av false ai) := by
  simp [floatOut, FOut.ofInt, FOut.flags, FOut.sticky, Effect.toReg, aluOut, AluFlags.word, integerEffect]

/-- AN of a fixed-point result is its sign. -/
theorem floatOut_ofInt (n : Reg) (r : W32) (av unf ai : Bool) :
    floatOut n (.ofInt r av unf ai) =
      integerEffect n r av (decide (r.toInt < 0)) false ai (aluSticky unf av false ai) := by
  rw [← bitOf_top_eq_decide_neg]
  exact floatOut_integer n r av unf ai (bitOf r 31) false

/-- A field of `Numerics` that the parameters leave to the reference runs with the reference's result. -/
theorem computes_numeric {c : Compute} {s : State} {n : Reg} {op : NumericOp} {x y : W40} {o : FOut} {e : Effect}
    (hs : flowReady s = true) (hn : s.cfg.numerics = [])
    (he : computeEffect c s = .ok (floatOut n (numeric s op x y o))) (h : floatOut n o = e) :
    computes (.ofCompute c) s e :=
  computes_of_effect_eq hs he (by rw [numeric_reference hn, h])

/-- COMP likewise: flags alone. -/
theorem compFComp_reference {s : State} {x y : Reg} {o : FOut} (hn : s.cfg.numerics = [])
    (h : comparison (regF s x) (regF s y) = o) :
    compFComp x y s =
      .flagsOnly (compareOut o.flags (effAstat s) (!o.ai && o.word != 0 && !fSign o.word) o.sticky) := by
  rw [compFComp, numericTwo, numeric_reference hn, h]

/-! NAN operands (R211, R215). -/

theorem fSum_nan (s : State) (half : Bool) {a b : W40} (h : isNan a = true ∨ isNan b = true) :
    fSum s half a b = .invalid s := by
  simp only [isNan_iff] at h
  obtain h | h := h
  · simp [fSum, h]
  · cases ha : classify a <;> simp [fSum, ha, h]

theorem chosen_nan (s : State) (f : W40 → W40 → W40) {a b : W40} (h : isNan a = true ∨ isNan b = true) :
    chosen s f a b = .invalid s := if_pos (by rw [Bool.or_eq_true]; exact h)

theorem comparison_nan {a b : W40} (h : isNan a = true ∨ isNan b = true) :
    comparison a b = ⟨0, false, false, true, false, false, false⟩ := if_pos (by rw [Bool.or_eq_true]; exact h)

theorem passOut_nan (s : State) {a : W40} (v : W40) (av : Bool) (h : isNan a = true) :
    passOut s (isNan a) v av = .invalid s := if_pos h

/-- `c` is a field of `Numerics` with a NAN operand whose reference is NAN1 in Rn, AS being `as`. -/
def NanField (s : State) (n : Reg) (as : Bool) (c : Compute) : Prop :=
  ∃ op x y, anyNan op (conditioned s op) x y = true ∧
    computeEffect c s = .ok (floatOut n (numeric s op x y ((FOut.invalid s).withSign as)))

theorem NanField.reference {s : State} {n : Reg} {as : Bool} {c : Compute} (h : NanField s n as c)
    (hs : flowReady s = true) (hn : s.cfg.numerics = []) : computes (.ofCompute c) s (nanEffect s n as) := by
  obtain ⟨op, x, y, _, he⟩ := h
  exact computes_numeric hs hn he (floatOut_invalid s n as)

theorem NanField.named {s : State} {n : Reg} {as : Bool} {c : Compute} (h : NanField s n as c)
    (hs : flowReady s = true) : ∃ e : Effect, computes (.ofCompute c) s e ∧ e.regs = [(n, nan1 s)] ∧
      e.flags.val.getLsbD 5 = true ∧ e.flags.sticky.getLsbD 5 = true := by
  obtain ⟨op, x, y, hnan, he⟩ := h
  obtain ⟨word, ai⟩ := numeric_nan (o := (FOut.invalid s).withSign as) hnan rfl
  have bit5 : (flagBit 5 true)[5] = true := rfl
  refine ⟨_, computes_of_computeEffect hs he, ?_, ?_, ?_⟩
  · exact congrArg (fun w => [(n, w)]) word
  · simp [floatOut, Effect.toReg, aluOut, AluFlags.word, FOut.flags, ai, bit5]
  · simp [floatOut, Effect.toReg, aluOut, FOut.sticky, aluSticky, ai, bit5]

/-- An operation on two floating-point operands, one of them a NAN. -/
theorem nanField_of_two {s : State} {n x y : Reg} {c : Compute} {op : NumericOp} {o : W40 → W40 → FOut}
    (h : isNan (regF s x) = true ∨ isNan (regF s y) = true) (ho : o (regF s x) (regF s y) = .invalid s)
    (hop : op ≠ .fRnd) (floats : op.floatX = true ∧ op.floatY = true)
    (he : computeEffect c s = .ok (floatOut n (numericTwo s op x y o))) : NanField s n false c := by
  refine ⟨op, reg s x, reg s y, ?_, ?_⟩
  · have either : isNan (fInput s (reg s x)) = true ∨ isNan (fInput s (reg s y)) = true := h
    simpa only [anyNan, conditioned, if_neg hop, floats, Bool.true_and, Bool.or_eq_true] using either
  · rw [he, numericTwo, ho]
    rfl

/-- An operation whose first operand is a NAN. -/
theorem nanField_of_first {s : State} {n x : Reg} {y : W40} {as : Bool} {c : Compute} {op : NumericOp} {o : FOut}
    (h : isNan (regF s x) = true) (ho : o = (FOut.invalid s).withSign as) (hop : op ≠ .fRnd) (float : op.floatX = true)
    (he : computeEffect c s = .ok (floatOut n (numeric s op (reg s x) y o))) : NanField s n as c := by
  refine ⟨op, reg s x, y, ?_, ?_⟩
  · have first : isNan (fInput s (reg s x)) = true := h
    simp only [anyNan, conditioned, if_neg hop, float, first, Bool.true_and, Bool.true_or]
  · rw [he, ho]

section
variable {s : State} {n x y : Reg}

theorem nanFields_of_two (h : isNan (regF s x) = true ∨ isNan (regF s y) = true) :
    NanField s n false (.fAdd n x y) ∧ NanField s n false (.fSub n x y) ∧ NanField s n false (.fAbsAdd n x y) ∧
    NanField s n false (.fAbsSub n x y) ∧ NanField s n false (.fAvg n x y) ∧ NanField s n false (.fCopysign n x y) ∧
    NanField s n false (.fMin n x y) ∧ NanField s n false (.fMax n x y) ∧ NanField s n false (.fClip n x y) := by
  have sum (half : Bool) : fSum s half (regF s x) (regF s y) = .invalid s := fSum_nan s half h
  have difference : fSum s false (regF s x) (fNegate (regF s y)) = .invalid s :=
    fSum_nan s false (by rwa [isNan_fNegate])
  exact ⟨nanField_of_two h (sum false) (by decide) ⟨rfl, rfl⟩ rfl,
    nanField_of_two h difference (by decide) ⟨rfl, rfl⟩ rfl,
    nanField_of_two h (congrArg FOut.abs (sum false)) (by decide) ⟨rfl, rfl⟩ rfl,
    nanField_of_two h (congrArg FOut.abs difference) (by decide) ⟨rfl, rfl⟩ rfl,
    nanField_of_two h (congrArg FOut.noOverflow (sum true)) (by decide) ⟨rfl, rfl⟩ rfl,
    nanField_of_two h (chosen_nan s _ h) (by decide) ⟨rfl, rfl⟩ rfl,
    nanField_of_two h (chosen_nan s _ h) (by decide) ⟨rfl, rfl⟩ rfl,
    nanField_of_two h (chosen_nan s _ h) (by decide) ⟨rfl, rfl⟩ rfl,
    nanField_of_two h (chosen_nan s _ h) (by decide) ⟨rfl, rfl⟩ rfl⟩

theorem nanFields_of_one (h : isNan (regF s x) = true) :
    NanField s n false (.fScalb n x y) ∧ NanField s n false (.fNeg n x) ∧
    NanField s n (fSign (reg s x)) (.fAbs n x) ∧ NanField s n false (.fPass n x) ∧
    NanField s n false (.fRecips n x) ∧ NanField s n false (.fRsqrts n x) := by
  have hc : classify (regF s x) = .nan := isNan_iff.1 h
  have passed (v : W40) (av : Bool) : passOut s (isNan (regF s x)) v av = .invalid s := passOut_nan s v av h
  exact ⟨nanField_of_first h (by rw [scalbOf, hc]; rfl) (by decide) rfl rfl,
    nanField_of_first h (passed _ _) (by decide) rfl rfl,
    nanField_of_first h (congrArg (FOut.withSign · _) (passed _ _)) (by decide) rfl rfl,
    nanField_of_first h (passed _ _) (by decide) rfl rfl,
    nanField_of_first h (by rw [recipsOf, hc]; rfl) (by decide) rfl rfl,
    nanField_of_first h (by rw [rsqrtsOf, hc]; rfl) (by decide) rfl rfl⟩

/-- The fixed-point results of a NAN are all ones (R231 to R234). -/
theorem nanIntegers (hs : flowReady s = true) (hn : s.cfg.numerics = []) (h : isNan (regF s x) = true) :
    computes (.fMant n x) s (integerEffect n 0xFFFFFFFF false false (fSign (reg s x)) true 0x00000020) ∧
    computes (.fLogb n x) s (integerEffect n 0xFFFFFFFF false true false true 0x00000020) ∧
    computes (.fFix n x) s (integerEffect n 0xFFFFFFFF false true false true 0x00000020) ∧
    computes (.fFixBy n x y) s (integerEffect n 0xFFFFFFFF false true false true 0x00000020) := by
  have hc : classify (regF s x) = .nan := isNan_iff.1 h
  have ones : floatOut n (.ofInt 0xFFFFFFFF false false true) =
      integerEffect n 0xFFFFFFFF false true false true 0x00000020 := floatOut_ofInt n _ _ _ _
  refine ⟨computes_numeric (c := .fMant n x) hs hn rfl ?_, computes_numeric (c := .fLogb n x) hs hn rfl ?_,
    computes_numeric (c := .fFix n x) hs hn rfl ?_, computes_numeric (c := .fFixBy n x y) hs hn rfl ?_⟩
  · simp only [mantOf, hc]
    exact floatOut_integer n _ false false true false _
  · simp only [logbOf, hc, ones]
  · simp only [fixTo, hc, ones]
  · simp only [fixTo, hc, ones]

theorem nanCompare (hs : flowReady s = true) (hn : s.cfg.numerics = [])
    (h : isNan (regF s x) = true ∨ isNan (regF s y) = true) :
    computes (.fComp x y) s ⟨[], none, ⟨aluMask ||| caccMask,
      ((effAstat s >>> 1) &&& 0x7F000000) ||| flagBit 5 true ||| flagBit 10 true, 0x00000020⟩⟩ := by
  refine computes_of_effect_eq (c := .fComp x y) hs rfl ?_
  rw [compFComp_reference hn (comparison_nan h)]
  simp [Effect.flagsOnly, compareOut, FOut.flags, FOut.sticky, AluFlags.word, aluSticky, caccAfter_eq]
  exact ⟨by rw [BitVec.or_comm, ← BitVec.or_assoc], rfl⟩

end

/-- Settles O25: each operation with a NAN operand, in either place, is a field of `Numerics` whose reference is
NAN1. -/
theorem nanOperandResults : Obligations.NanOperandResults := by
  intro s n x y hs h
  obtain ⟨add, sub, absAdd, absSub, avg, copysign, min, max, clip⟩ := nanFields_of_two (n := n) (y := y) (.inl h)
  obtain ⟨add', sub', absAdd', absSub', avg', copysign', min', max', clip'⟩ :=
    nanFields_of_two (n := n) (x := y) (.inr h)
  obtain ⟨scalb, neg, abs, pass, recips, rsqrts⟩ := nanFields_of_one (n := n) (y := y) h
  constructor
  · intro hn
    obtain ⟨mant, logb, fix, fixBy⟩ := nanIntegers (n := n) (y := y) hs hn h
    exact ⟨add.reference hs hn, add'.reference hs hn, sub.reference hs hn, sub'.reference hs hn,
      absAdd.reference hs hn, absAdd'.reference hs hn, absSub.reference hs hn, absSub'.reference hs hn,
      avg.reference hs hn, avg'.reference hs hn, neg.reference hs hn, abs.reference hs hn, pass.reference hs hn,
      scalb.reference hs hn, recips.reference hs hn, rsqrts.reference hs hn, copysign.reference hs hn,
      copysign'.reference hs hn, min.reference hs hn, min'.reference hs hn, max.reference hs hn, max'.reference hs hn,
      clip.reference hs hn, clip'.reference hs hn, mant, logb, fix, fixBy, nanCompare hs hn (.inl h),
      nanCompare hs hn (.inr h)⟩
  · exact ⟨add.named hs, sub.named hs, absAdd.named hs, absSub.named hs, avg.named hs, copysign.named hs, min.named hs,
      max.named hs, clip.named hs, add'.named hs, sub'.named hs, absAdd'.named hs, absSub'.named hs, avg'.named hs,
      copysign'.named hs, min'.named hs, max'.named hs, clip'.named hs, scalb.named hs, neg.named hs, abs.named hs,
      pass.named hs, recips.named hs, rsqrts.named hs⟩

/-! Sums (R220 to R224). -/

theorem classify_fNegate_num {b : W40} {v : Fin2} (h : classify b = .num v) :
    classify (fNegate b) = .num v.negated := by
  obtain ⟨sign, -, -⟩ := classify_num h
  rw [classify_fNegate, h, ← sign]
  rfl

theorem classify_fNegate_inf {b : W40} {q : Bool} (h : classify b = .inf q) : classify (fNegate b) = .inf (!q) := by
  rw [classify_fNegate, h, ← classify_inf h]
  rfl

section
variable (s : State) (half : Bool) {a b : W40} {u v : Fin2} {p q : Bool}

theorem fSum_num (ha : classify a = .num u) (hb : classify b = .num v) :
    fSum s half a b = .ofDelivered (delivered s ((u.add v).scale (if half then -1 else 0))) := by
  simp only [fSum, ha, hb, delivered]

theorem fSum_inf_num (ha : classify a = .inf p) (hb : classify b = .num v) : fSum s half a b = .exact (fInf p) := by
  simp only [fSum, ha, hb]

theorem fSum_num_inf (ha : classify a = .num u) (hb : classify b = .inf q) : fSum s half a b = .exact (fInf q) := by
  simp only [fSum, ha, hb]

theorem fSum_inf_inf (ha : classify a = .inf p) (hb : classify b = .inf q) :
    fSum s half a b = if p = q then .exact (fInf p) else .invalid s := by
  simp only [fSum, ha, hb]

end

theorem scale_zero (v : Fin2) : v.scale 0 = v := by rw [Fin2.scale, Int.add_zero]

theorem abs_ofDelivered (d : Delivered) :
    (FOut.ofDelivered d).abs = .ofDelivered { d with word := setSign d.word false } := rfl

theorem noOverflow_ofDelivered (d : Delivered) :
    (FOut.ofDelivered d).noOverflow = .ofDelivered { d with ovf := false } := rfl

theorem abs_exact_fInf (p : Bool) : (FOut.exact (fInf p)).abs = .exact (fInf false) := by cases p <;> rfl

theorem noOverflow_exact (w : W40) : (FOut.exact w).noOverflow = .exact w := rfl

theorem abs_invalid (s : State) : (FOut.invalid s).abs = .invalid s := rfl

theorem noOverflow_invalid (s : State) : (FOut.invalid s).noOverflow = .invalid s := rfl

theorem floatOut_nan1 (s : State) (n : Reg) : floatOut n (.invalid s) = nanEffect s n false :=
  floatOut_invalid s n false

/-- The five sums run with what the reference gives for the sum, the difference and the halved sum. -/
theorem computes_sums {s : State} {x y : Reg} {sum difference half : FOut} (n : Reg) (hs : flowReady s = true)
    (hn : s.cfg.numerics = []) (hsum : fSum s false (regF s x) (regF s y) = sum)
    (hdiff : fSum s false (regF s x) (fNegate (regF s y)) = difference)
    (hhalf : fSum s true (regF s x) (regF s y) = half) :
    computes (.fAdd n x y) s (floatOut n sum) ∧ computes (.fSub n x y) s (floatOut n difference) ∧
    computes (.fAbsAdd n x y) s (floatOut n sum.abs) ∧ computes (.fAbsSub n x y) s (floatOut n difference.abs) ∧
    computes (.fAvg n x y) s (floatOut n half.noOverflow) := by
  subst hsum hdiff hhalf
  exact ⟨computes_numeric (c := .fAdd n x y) hs hn rfl rfl, computes_numeric (c := .fSub n x y) hs hn rfl rfl,
    computes_numeric (c := .fAbsAdd n x y) hs hn rfl rfl, computes_numeric (c := .fAbsSub n x y) hs hn rfl rfl,
    computes_numeric (c := .fAvg n x y) hs hn rfl rfl⟩

/-- Settles O26: the subtrahend counts with its sign changed, and the sums are delivered exactly as they come. -/
theorem finiteFloatSums : Obligations.FiniteFloatSums := by
  intro s n x y a b hs hn ha hb
  have sums := computes_sums n hs hn (fSum_num s false ha hb) (fSum_num s false ha (classify_fNegate_num hb))
    (fSum_num s true ha hb)
  simp only [Bool.false_eq_true, if_true, if_false, scale_zero, abs_ofDelivered, noOverflow_ofDelivered,
    floatOut_delivered] at sums
  exact sums

/-- Settles O27: with a finite operand, either way round, and with a second Infinity of the same or the other sign. -/
theorem infiniteFloatSums : Obligations.InfiniteFloatSums := by
  intro s n x y p q b hs hn hx
  refine ⟨fun hy => ?_, fun hy => ⟨?_, fun differ => ?_⟩⟩
  · have first := computes_sums n hs hn (fSum_inf_num s false hx hy) (fSum_inf_num s false hx (classify_fNegate_num hy))
      (fSum_inf_num s true hx hy)
    have second := computes_sums n hs hn (fSum_num_inf s false hy hx)
      (fSum_num_inf s false hy (classify_fNegate_inf hx)) (fSum_num_inf s true hy hx)
    simp only [abs_exact_fInf, noOverflow_exact, floatOut_exact] at first second
    obtain ⟨add, sub, absAdd, absSub, avg⟩ := first
    obtain ⟨add', sub', absAdd', absSub', avg'⟩ := second
    exact ⟨add, add', sub, sub', absAdd, absAdd', absSub, absSub', avg, avg'⟩
  · rintro rfl
    have sums := computes_sums n hs hn (fSum_inf_inf s false hx hy) (fSum_inf_inf s false hx (classify_fNegate_inf hy))
      (fSum_inf_inf s true hx hy)
    simp only [Bool.eq_not_self, if_true, if_false, abs_exact_fInf, noOverflow_exact, abs_invalid,
      floatOut_exact, floatOut_nan1] at sums
    obtain ⟨add, sub, absAdd, absSub, avg⟩ := sums
    exact ⟨add, sub, absSub, absAdd, avg⟩
  · have opposite : p = !q := Bool.eq_not.2 differ
    have sums := computes_sums n hs hn (fSum_inf_inf s false hx hy) (fSum_inf_inf s false hx (classify_fNegate_inf hy))
      (fSum_inf_inf s true hx hy)
    rw [if_neg differ, if_pos opposite] at sums
    simp only [abs_exact_fInf, abs_invalid, noOverflow_invalid, floatOut_exact, floatOut_nan1] at sums
    obtain ⟨add, sub, absAdd, absSub, avg⟩ := sums
    exact ⟨add, absAdd, sub, absSub, avg⟩

/-! Selections and comparisons (R225 to R228, R239 to R242). -/

theorem fLess_iff (a b : W40) :
    fLess a b = true ↔ (ordered (classify a)).rat < (ordered (classify b)).rat := lt_iff_rat _ _

/-- A word made positive has the magnitude of its value. -/
theorem ordered_setSign_false (v : W40) :
    (ordered (classify (setSign v false))).rat = |(ordered (classify v)).rat| := by
  rw [classify_setSign]
  cases classify v with
  | nan => simp [FVal.withSign, ordered, Fin2.rat]
  | inf p => rw [abs_rat]; simp [FVal.withSign, ordered, Fin2.rat]
  | num a => rw [abs_rat]; simp [FVal.withSign, ordered, Fin2.rat]

theorem passOut_valued (s : State) {nan : Bool} (v : W40) (av : Bool) (h : nan = false) :
    passOut s nan v av = .valued v av false := if_neg (by rw [h]; decide)

theorem chosen_valued (s : State) (f : W40 → W40 → W40) {a b : W40} (ha : isNan a = false) (hb : isNan b = false) :
    chosen s f a b = .exact (f a b) := passOut_valued s _ _ (by rw [ha, hb]; rfl)

/-- The comparison's answer: `orderWord` tells the three orders apart. -/
theorem comparison_valued {a b : W40} (ha : isNan a = false) (hb : isNan b = false) :
    let p := (ordered (classify a)).rat
    let q := (ordered (classify b)).rat
    comparison a b = ⟨orderWord (decide (p = q)) (decide (p < q)), false, false, false, decide (p = q), decide (p < q),
      false⟩ := by
  intro p q
  have less : fLess a b = decide (p < q) := by rw [Bool.eq_iff_iff, fLess_iff, decide_eq_true_eq]
  have greater : fLess b a = decide (q < p) := by rw [Bool.eq_iff_iff, fLess_iff, decide_eq_true_eq]
  have equal : (!decide (p < q) && !decide (q < p)) = decide (p = q) := by
    rw [← Bool.not_or, ← Bool.decide_or, ← decide_not, decide_eq_decide, ← ne_iff_lt_or_gt, ne_eq, not_not]
  simp only [comparison, ha, hb, Bool.or_self, Bool.false_eq_true, if_false, less, greater, equal]

/-- COMP's new CACC bit says greater. -/
theorem orderWord_greater (p q : ℚ) :
    (orderWord (decide (p = q)) (decide (p < q)) != 0 &&
      !fSign (orderWord (decide (p = q)) (decide (p < q)))) = decide (q < p) := by
  obtain less | equal | greater := lt_trichotomy p q
  · rw [decide_eq_false less.ne, decide_eq_true less, decide_eq_false less.not_gt]
    rfl
  · rw [decide_eq_true equal, decide_eq_false equal.not_lt, decide_eq_false equal.not_gt]
    rfl
  · rw [decide_eq_false greater.ne', decide_eq_false greater.not_gt, decide_eq_true greater]
    rfl

section
variable {s : State} {x y : Reg} (n : Reg) (hs : flowReady s = true) (hn : s.cfg.numerics = [])
include hs hn

/-- Negation, absolute value and pass. -/
theorem computes_signs (hx : isNan (regF s x) = false) :
    computes (.fNeg n x) s (wordEffect n (setSign (regF s x) (!fSign (regF s x))) (isInf (regF s x)) false) ∧
    computes (.fAbs n x) s (wordEffect n (setSign (regF s x) false) (isInf (regF s x)) (fSign (reg s x))) ∧
    computes (.fPass n x) s (wordEffect n (regF s x) false false) := by
  have signed (w : W40) (av as : Bool) :
      floatOut n ((passOut s (isNan (regF s x)) w av).withSign as) = wordEffect n w av as := by
    rw [passOut_valued s w av hx, floatOut_valued]
  have plain (w : W40) (av : Bool) : floatOut n (passOut s (isNan (regF s x)) w av) = wordEffect n w av false := by
    rw [passOut_valued s w av hx]
    exact floatOut_valued n w av false
  exact ⟨computes_numeric (c := .fNeg n x) hs hn rfl (plain _ _),
    computes_numeric (c := .fAbs n x) hs hn rfl (signed _ _ _),
    computes_numeric (c := .fPass n x) hs hn rfl (plain _ _)⟩

/-- A choice among two operands runs with the word chosen. -/
theorem computes_chosen {c : Compute} {op : NumericOp} {f : W40 → W40 → W40} {w : W40} (hx : isNan (regF s x) = false)
    (hy : isNan (regF s y) = false) (hw : f (regF s x) (regF s y) = w)
    (he : computeEffect c s = .ok (floatOut n (numericTwo s op x y (chosen s f)))) :
    computes (.ofCompute c) s (wordEffect n w false false) :=
  computes_numeric hs hn he (by rw [chosen_valued s f hx hy, hw, floatOut_exact])

theorem computes_compare (hx : isNan (regF s x) = false) (hy : isNan (regF s y) = false) :
    let p := (ordered (classify (regF s x))).rat
    let q := (ordered (classify (regF s y))).rat
    computes (.fComp x y) s ⟨[], none, ⟨aluMask ||| caccMask,
      flagBit 0 (decide (p = q)) ||| flagBit 2 (decide (p < q)) |||
        ((effAstat s >>> 1) &&& 0x7F000000) ||| flagBit 31 (decide (q < p)) ||| flagBit 10 true, 0⟩⟩ := by
  intro p q
  refine computes_of_effect_eq (c := .fComp x y) hs rfl ?_
  rw [compFComp_reference hn (comparison_valued hx hy), Bool.not_false, Bool.true_and, orderWord_greater]
  simp [Effect.flagsOnly, compareOut, FOut.flags, FOut.sticky, AluFlags.word, aluSticky, caccAfter_eq]
  simp only [p, q]
  ac_rfl

end

/-- Settles O28: the order of the values decides each choice. -/
theorem floatSelectResults : Obligations.FloatSelectResults := by
  intro s n x y hs hn hx hy a b p q
  obtain ⟨neg, abs, pass⟩ := computes_signs n hs hn hx
  have less : fLess a b = true ↔ p < q := fLess_iff a b
  have greater : fLess b a = true ↔ q < p := fLess_iff b a
  have smaller : fLess (setSign a false) (setSign b false) = true ↔ |p| < |q| := by
    rw [fLess_iff, ordered_setSign_false, ordered_setSign_false]
  have min {w : W40} (hw : (if fLess b a then b else a) = w) : computes (.fMin n x y) s (wordEffect n w false false) :=
    computes_chosen (c := .fMin n x y) n hs hn hx hy hw rfl
  have max {w : W40} (hw : (if fLess a b then b else a) = w) : computes (.fMax n x y) s (wordEffect n w false false) :=
    computes_chosen (c := .fMax n x y) n hs hn hx hy hw rfl
  have clip {w : W40} (hw : (if fLess (setSign a false) (setSign b false) then a
      else setSign (setSign b false) (fSign a)) = w) : computes (.fClip n x y) s (wordEffect n w false false) :=
    computes_chosen (c := .fClip n x y) n hs hn hx hy hw rfl
  refine ⟨neg, abs, pass, computes_chosen (c := .fCopysign n x y) n hs hn hx hy rfl rfl, fun h => min ?_,
    fun h => min ?_, fun h => max ?_, fun h => max ?_, fun h => clip ?_, fun h => clip ?_, computes_compare hs hn hx hy⟩
  · exact if_neg (by rw [greater]; exact h.not_gt)
  · exact if_pos (greater.2 h)
  · exact if_neg (by rw [less]; exact h.not_gt)
  · exact if_pos (less.2 h)
  · exact if_pos (smaller.2 h)
  · rw [if_neg (by rw [smaller]; exact h.not_gt), setSign_setSign]

/-! Rounding, scaling and conversion from an integer (R229, R230, R235, R236). -/

/-- Settles O29: each class of the operand as the reference treats it, and integers as finite values. -/
theorem roundScaleFloatResults : Obligations.RoundScaleFloatResults := by
  intro s n x y hs hn k i
  have rnd {e : Effect} (h : floatOut n (rndOf s (reg s x)) = e) : computes (.fRnd n x) s e :=
    computes_numeric (c := .fRnd n x) hs hn rfl h
  have scalb {e : Effect} (h : floatOut n (scalbOf s (regF s x) k) = e) : computes (.fScalb n x y) s e :=
    computes_numeric (c := .fScalb n x y) hs hn rfl h
  refine ⟨fun a h => rnd ?_, fun p h => rnd ?_, fun h => rnd ?_, fun a h => scalb ?_, fun p h => scalb ?_,
    computes_numeric (c := .fFloat n x) hs hn rfl (floatOut_delivered n _),
    computes_numeric (c := .fFloatBy n x y) hs hn rfl (floatOut_delivered n _)⟩
  · rw [rndOf, h, floatOut_delivered]
  · rw [rndOf, h, floatOut_exact]
  · rw [rndOf, isNan_iff.1 h, floatOut_nan1]
  · rw [scalbOf, h, floatOut_delivered, delivered]
  · rw [scalbOf, h, floatOut_exact]

/-! Significand, exponent, and conversion of an Infinity (R231 to R234). -/

theorem floatOut_fixOverflow (s : State) (n : Reg) (neg : Bool) :
    floatOut n (fixOverflow s neg) =
      if alusat s = true then integerEffect n (if neg then 0x80000000 else 0x7FFFFFFF) true neg false false 0x00000002
      else integerEffect n 0xFFFFFFFF true true false true 0x00000022 := by
  unfold fixOverflow
  split
  · rw [floatOut_ofInt]
    cases neg <;> rfl
  · rw [floatOut_ofInt]
    rfl

theorem toInt_ofInt_of_range {z : Int} (lo : -2 ^ 31 ≤ z) (hi : z < 2 ^ 31) : (BitVec.ofInt 32 z).toInt = z :=
  BitVec.toInt_ofInt_eq_self (by decide) lo hi

/-- The exponent that LOGB gives for a finite operand other than Zero. -/
theorem floatOut_logb {a : W40} {v : Fin2} (n : Reg) (h : classify a = .num v) (hm : v.m ≠ 0) :
    floatOut n (logbOf a) =
      integerEffect n (BitVec.ofInt 32 (v.e + 31)) false (decide (v.e + 31 < 0)) false false 0 := by
  obtain ⟨-, hlt, ⟨-, hz⟩ | ⟨hpos, -, he⟩⟩ := classify_num h
  · exact absurd hz hm
  · have exponent : (fExp a : Int) - 127 = v.e + 31 := by omega
    rw [logbOf, h]
    simp only [if_neg hm]
    rw [exponent, floatOut_ofInt, toInt_ofInt_of_range (by omega) (by omega)]
    rfl

theorem significand_range {a : W40} {v : Fin2} (h : classify a = .num v) (hm : v.m ≠ 0) :
    2 ^ 31 ≤ v.m ∧ v.m < 2 ^ 32 := by
  have := fFrac_lt a
  obtain ⟨-, -, ⟨-, hz⟩ | ⟨-, hs, -⟩⟩ := classify_num h <;> omega

/-- Settles O31: MANT and LOGB read the significand and the exponent off the word; an Infinity is out of range. -/
theorem mantissaExponentResults : Obligations.MantissaExponentResults := by
  intro s n x y hs hn
  have mant {r : W32} {ai : Bool} (h : mantOf (regF s x) = { FOut.ofInt r false false ai with an := false }) :
      computes (.fMant n x) s
        (integerEffect n r false false (fSign (reg s x)) ai (aluSticky false false false ai)) := by
    refine computes_numeric (c := .fMant n x) hs hn rfl (.trans ?_ (floatOut_integer n r false false ai false _))
    exact congrArg (fun o => floatOut n (o.withSign (fSign (reg s x)))) h
  have logb {e : Effect} (h : floatOut n (logbOf (regF s x)) = e) : computes (.fLogb n x) s e :=
    computes_numeric (c := .fLogb n x) hs hn rfl h
  constructor
  · intro a ha
    refine ⟨mant (by rw [mantOf, ha]), fun hm => ?_, fun hm => logb ?_⟩
    · obtain ⟨lower, upper⟩ := significand_range ha hm
      exact ⟨lower, upper, logb (floatOut_logb n ha hm)⟩
    · rw [logbOf, ha]
      simp only [if_pos hm, floatOut_ofInt]
      rfl
  · intro p hp
    refine ⟨mant (by rw [mantOf, hp]), logb ?_, ?_⟩
    · rw [logbOf, hp, floatOut_ofInt]
      rfl
    · have fix (k : Int) : fixTo s (regF s x) k = fixOverflow s p := by rw [fixTo, hp]
      have result (k : Int) := (congrArg (floatOut n) (fix k)).trans (floatOut_fixOverflow s n p)
      exact ⟨computes_numeric (c := .fFix n x) hs hn rfl (result 0),
        computes_numeric (c := .fFixBy n x y) hs hn rfl (result _)⟩

/-! FIX (R233, R234). -/

/-- The magnitude of `m * 2 ^ e` rounded to an integer, however large: what `roundInt` gives, but for its cut at
2^32. -/
def wholePart (truncate : Bool) (m : Nat) (e : Int) : Nat :=
  if 0 ≤ e then m * 2 ^ e.toNat else roundShift truncate m (-e).toNat

/-- The size of a number in its logarithm. -/
theorem log2_bounds {m : Nat} (hm : m ≠ 0) (e : Int) :
    (2 : ℚ) ^ ((m.log2 : Int) + e) ≤ m * 2 ^ e ∧ (m : ℚ) * 2 ^ e < 2 ^ ((m.log2 : Int) + e + 1) := by
  have lower : 2 ^ m.log2 ≤ m := Nat.log2_self_le hm
  have upper : m < 2 ^ (m.log2 + 1) := Nat.lt_log2_self
  have pos := two_zpow_pos e
  rw [add_right_comm, two_zpow_add, two_zpow_add, ← Nat.cast_succ, zpow_natCast, zpow_natCast,
    mul_le_mul_iff_left₀ pos, mul_lt_mul_iff_left₀ pos]
  exact ⟨by exact_mod_cast lower, by exact_mod_cast upper⟩

theorem wholePart_truncate (m : Nat) (e : Int) :
    (wholePart true m e : ℚ) ≤ m * 2 ^ e ∧ (m : ℚ) * 2 ^ e < wholePart true m e + 1 := by
  unfold wholePart
  split
  · next nonneg =>
    obtain ⟨d, rfl⟩ := Int.eq_ofNat_of_zero_le nonneg
    simp
  · next neg =>
    obtain ⟨below, near⟩ := roundShift_truncate_error m (-e).toNat e
    have unit : e + ((-e).toNat : Int) = 0 := by omega
    rw [unit, zpow_zero, mul_one] at below
    rw [roundError, unit, zpow_zero, mul_one, abs_sub_lt_iff] at near
    exact ⟨below, by linarith⟩

theorem wholePart_nearest (m : Nat) (e : Int) :
    |(wholePart false m e : ℚ) - m * 2 ^ e| ≤ 1 / 2 ∧
      (|(wholePart false m e : ℚ) - m * 2 ^ e| = 1 / 2 → wholePart false m e % 2 = 0) := by
  unfold wholePart
  split
  · next nonneg =>
    obtain ⟨d, rfl⟩ := Int.eq_ofNat_of_zero_le nonneg
    simp
  · next neg =>
    have near := roundShift_nearest_error m (-e).toNat e
    have unit : e + ((-e).toNat : Int) = 0 := by omega
    rw [roundError, unit, zpow_zero, mul_one] at near
    exact near

theorem wholePart_near (truncate : Bool) (m : Nat) (e : Int) : |(wholePart truncate m e : ℚ) - m * 2 ^ e| < 1 := by
  cases truncate with
  | false => exact (wholePart_nearest m e).1.trans_lt (by norm_num)
  | true =>
    obtain ⟨below, near⟩ := wholePart_truncate m e
    rw [abs_sub_lt_iff]
    constructor <;> linarith

theorem wholePart_zero (truncate : Bool) (e : Int) : wholePart truncate 0 e = 0 := by
  simp [wholePart, roundShift]

theorem wholePart_large (truncate : Bool) {m : Nat} {e : Int} (hm : m ≠ 0) (h : 32 < (m.log2 : Int) + e) :
    2 ^ 32 ≤ wholePart truncate m e := by
  have size : (2 : ℚ) ^ (33 : Int) ≤ 2 ^ ((m.log2 : Int) + e) := zpow_le_zpow_right₀ (by norm_num) (by omega)
  have lower := size.trans (log2_bounds hm e).1
  have near := (abs_sub_lt_iff.1 (wholePart_near truncate m e)).2
  have : ((2 ^ 32 : Nat) : ℚ) ≤ wholePart truncate m e := by
    norm_num at lower
    push_cast
    linarith
  exact_mod_cast this

theorem wholePart_small (truncate : Bool) {m : Nat} {e : Int} (hm : m ≠ 0) (h : (m.log2 : Int) + e < -1) :
    wholePart truncate m e = 0 := by
  have size : (2 : ℚ) ^ ((m.log2 : Int) + e + 1) ≤ 2 ^ (-1 : Int) := zpow_le_zpow_right₀ (by norm_num) (by omega)
  have upper : (m : ℚ) * 2 ^ e < 1 / 2 := by simpa using (log2_bounds hm e).2.trans_le size
  have : (wholePart truncate m e : ℚ) < 1 := by
    cases truncate with
    | false =>
      have near := (abs_sub_le_iff.1 (wholePart_nearest m e).1).1
      linarith
    | true =>
      have below := (wholePart_truncate m e).1
      linarith
  have : wholePart truncate m e < 1 := by exact_mod_cast this
  omega

/-- `roundInt` stops at 2^32. -/
theorem roundInt_eq (truncate : Bool) (m : Nat) (e : Int) :
    roundInt truncate m e = wholePart truncate m e ∨
      (roundInt truncate m e = 2 ^ 32 ∧ 2 ^ 32 ≤ wholePart truncate m e) := by
  by_cases hm : m = 0
  · exact .inl (by rw [hm, wholePart_zero, roundInt, if_pos rfl])
  rw [roundInt, if_neg hm]
  split
  · next large => exact .inr ⟨rfl, wholePart_large truncate hm large⟩
  · split
    · next small => exact .inl (wholePart_small truncate hm small).symm
    · exact .inl rfl

/-- The value rounded to an integer. -/
def Fin2.whole (truncate : Bool) (v : Fin2) : Int :=
  if v.neg then -(wholePart truncate v.m v.e : Int) else wholePart truncate v.m v.e

theorem whole_truncate (v : Fin2) :
    |(v.whole true : ℚ)| ≤ |v.rat| ∧ |v.rat| < |(v.whole true : ℚ)| + 1 ∧ 0 ≤ (v.whole true : ℚ) * v.rat := by
  obtain ⟨neg, m, e⟩ := v
  obtain ⟨below, near⟩ := wholePart_truncate m e
  have pos := (two_zpow_pos e).le
  rw [abs_rat]
  cases neg <;> simp [Fin2.whole, Fin2.rat, below, near] <;> positivity

theorem whole_nearest (v : Fin2) :
    |(v.whole false : ℚ) - v.rat| ≤ 1 / 2 ∧ (|(v.whole false : ℚ) - v.rat| = 1 / 2 → v.whole false % 2 = 0) := by
  obtain ⟨neg, m, e⟩ := v
  obtain ⟨near, tie⟩ := wholePart_nearest m e
  have distance : |(Fin2.whole false ⟨neg, m, e⟩ : ℚ) - Fin2.rat ⟨neg, m, e⟩| =
      |(wholePart false m e : ℚ) - m * 2 ^ e| := by
    cases neg
    · simp [Fin2.whole, Fin2.rat]
    · rw [← abs_neg]
      simp [Fin2.whole, Fin2.rat]
      congr 1
      ring
  rw [distance]
  refine ⟨near, fun h => ?_⟩
  have even := tie h
  cases neg <;> simp only [Fin2.whole, Bool.false_eq_true, if_true, if_false] <;> omega

/-- Underflow: a value not 0, below 1 in magnitude. -/
theorem small_iff_log2 (v : Fin2) :
    (v.m != 0 && decide ((v.m.log2 : Int) + v.e < 0)) = decide (v.rat ≠ 0 ∧ |v.rat| < 1) := by
  rw [Bool.eq_iff_iff, Bool.and_eq_true, bne_iff_ne, decide_eq_true_eq, decide_eq_true_eq, abs_rat, ← abs_pos, abs_rat]
  by_cases hm : v.m = 0
  · simp [hm]
  have pos : (0 : ℚ) < v.m * 2 ^ v.e := mul_pos (by positivity) (two_zpow_pos _)
  obtain ⟨lower, upper⟩ := log2_bounds hm v.e
  simp only [ne_eq, hm, not_false_eq_true, true_and, pos]
  constructor
  · intro h
    exact upper.trans_le (zpow_le_one_of_nonpos₀ (by norm_num) (by omega))
  · intro h
    by_contra large
    exact absurd (lower.trans_lt h) (not_lt.2 (one_le_zpow₀ (by norm_num) (not_lt.1 large)))

/-- The cut at 2^32 changes no result: beyond 32 bits only the sign counts. -/
theorem roundInt_signed (truncate : Bool) (v : Fin2) {i : Int}
    (hi : (if v.neg then -(roundInt truncate v.m v.e : Int) else roundInt truncate v.m v.e) = i) :
    (wide32 (v.whole truncate) = true ∧ wide32 i = true ∧ decide (v.whole truncate < 0) = v.neg) ∨
      (wide32 (v.whole truncate) = false ∧ wide32 i = false ∧ i = v.whole truncate) := by
  obtain ⟨neg, m, e⟩ := v
  have cut := roundInt_eq truncate m e
  simp only [wide32, decide_eq_true_eq, decide_eq_false_iff_not, Fin2.whole] at hi ⊢
  cases neg <;>
    simp only [Bool.false_eq_true, if_true, if_false, decide_eq_true_eq, decide_eq_false_iff_not] at hi ⊢ <;> omega

/-- FIX of a finite operand by its rounded value. -/
theorem fixTo_num {s : State} {a : W40} {v : Fin2} (k : Int) (h : classify a = .num v) :
    fixTo s a k =
      if wide32 ((v.scale k).whole (trunc s)) = false then
        .ofInt (BitVec.ofInt 32 ((v.scale k).whole (trunc s))) false
          (decide ((v.scale k).rat ≠ 0 ∧ |(v.scale k).rat| < 1)) false
      else fixOverflow s (decide ((v.scale k).whole (trunc s) < 0)) := by
  have cut : ∀ i : Int, (if v.neg then -(roundInt (trunc s) v.m (v.e + k) : Int)
      else roundInt (trunc s) v.m (v.e + k)) = i →
      fixTo s a k = if wide32 i = true then fixOverflow s v.neg else
        .ofInt (BitVec.ofInt 32 i) false (v.m != 0 && decide ((v.m.log2 : Int) + (v.e + k) < 0)) false := by
    rintro i rfl
    simp only [fixTo, h, wide32, decide_eq_true_eq, Int.sub_one_lt_iff]
  rw [← small_iff_log2, cut _ rfl]
  obtain ⟨wide, wide_i, sign⟩ | ⟨fits, fits_i, same⟩ := roundInt_signed (trunc s) (v.scale k) rfl
  · exact (if_pos wide_i).trans (by rw [if_neg (by rw [wide]; decide), sign]; rfl)
  · refine (if_neg (Bool.eq_false_iff.1 fits_i)).trans ?_
    rw [if_pos fits, ← same]
    rfl

theorem underflowSticky_eq (unf : Bool) : aluSticky unf false false false = flagBit 0 unf := by cases unf <;> rfl

theorem floatOut_fixTo {s : State} {a : W40} {v : Fin2} (n : Reg) (k : Int) (h : classify a = .num v) :
    let z := (v.scale k).whole (trunc s)
    floatOut n (fixTo s a k) =
      if wide32 z = false then
        integerEffect n (BitVec.ofInt 32 z) false (decide (z < 0)) false false
          (flagBit 0 (decide ((v.scale k).rat ≠ 0 ∧ |(v.scale k).rat| < 1)))
      else if alusat s = true then
        integerEffect n (if z < 0 then 0x80000000 else 0x7FFFFFFF) true (decide (z < 0)) false false 0x00000002
      else integerEffect n 0xFFFFFFFF true true false true 0x00000022 := by
  intro z
  rw [fixTo_num k h]
  split
  · next fits =>
    have range : ¬ (z < -2 ^ 31 ∨ 2 ^ 31 ≤ z) := by rw [← wide32_iff, fits]; decide
    rw [floatOut_ofInt, toInt_ofInt_of_range (by omega) (by omega), underflowSticky_eq]
  · rw [floatOut_fixOverflow]
    simp only [decide_eq_true_eq]
    rfl

/-- Settles O30: the integer is the value rounded in the mode. -/
theorem fixResults : Obligations.FixResults := by
  intro s n x y a k hs hn ha
  refine ⟨(a.scale k).whole (trunc s), fun h => ?_, fun h => ?_, ?_, ?_⟩
  · rw [h]
    exact whole_truncate _
  · rw [h]
    exact whole_nearest _
  · rintro rfl
    exact computes_numeric (c := .fFix n x) hs hn rfl (floatOut_fixTo n _ ha)
  · rintro rfl
    exact computes_numeric (c := .fFixBy n x y) hs hn rfl (floatOut_fixTo n _ ha)

/-! The reciprocal seed (R237). -/

/-- Between which bounds the fraction of the seed of `sig` is brought: within the 31 bits, far enough apart for a step
of 256, and each accurate. -/
theorem recips_range {sig : Nat} (lower : 2 ^ 31 ≤ sig) (upper : sig < 2 ^ 32) :
    ∃ lo hi, (∀ unit free, recipsFrac unit sig free =
        max ((lo + unit - 1) / unit) (min (hi / unit) (free / unit)) * unit) ∧
      lo + 255 ≤ hi ∧ hi < 2 ^ 31 ∧ 2 ^ 63 - 2 ^ 55 ≤ (2 ^ 31 + lo) * sig ∧ (2 ^ 31 + hi) * sig ≤ 2 ^ 63 + 2 ^ 55 := by
  refine ⟨_, _, fun _ _ => rfl, ?_⟩
  have hs : 0 < sig := by omega
  have low_ge : 2 ^ 63 - 2 ^ 55 + sig - 1 < (2 ^ 63 - 2 ^ 55 + sig - 1) / sig * sig + sig := Nat.lt_div_mul_add hs
  have low_le : (2 ^ 63 - 2 ^ 55 + sig - 1) / sig * sig ≤ 2 ^ 63 - 2 ^ 55 + sig - 1 := Nat.div_mul_le_self _ _
  have high_ge : 2 ^ 63 + 2 ^ 55 < (2 ^ 63 + 2 ^ 55) / sig * sig + sig := Nat.lt_div_mul_add hs
  have high_le : (2 ^ 63 + 2 ^ 55) / sig * sig ≤ 2 ^ 63 + 2 ^ 55 := Nat.div_mul_le_self _ _
  have low_max : (2 ^ 63 - 2 ^ 55 + sig - 1) / sig < 2 ^ 32 - 2 ^ 24 + 1 := (Nat.div_lt_iff_lt_mul hs).2 (by omega)
  have high_min : 2 ^ 31 + 2 ^ 23 ≤ (2 ^ 63 + 2 ^ 55) / sig := (Nat.le_div_iff_mul_le hs).2 (by omega)
  generalize (2 ^ 63 - 2 ^ 55 + sig - 1) / sig = low at *
  generalize (2 ^ 63 + 2 ^ 55) / sig = high at *
  have apart : low + 512 ≤ high := by
    by_contra close
    have : high * sig ≤ (low + 512) * sig := Nat.mul_le_mul_right _ (by omega)
    rw [Nat.add_mul] at this
    omega
  have low_mul : low * sig ≤ (2 ^ 31 + (low - 2 ^ 31)) * sig := Nat.mul_le_mul_right _ (by omega)
  have high_mul : (2 ^ 31 + min (high - 2 ^ 31) (2 ^ 31 - 1)) * sig ≤ high * sig := Nat.mul_le_mul_right _ (by omega)
  exact ⟨by omega, by omega, by omega, high_mul.trans high_le⟩

/-- `free` brought between `lo` and `hi` in steps of 1 or 256. -/
theorem clamped_between {unit lo hi free f : Nat} (hu : unit = 1 ∨ unit = 256) (apart : lo + 255 ≤ hi)
    (hf : max ((lo + unit - 1) / unit) (min (hi / unit) (free / unit)) * unit = f) : lo ≤ f ∧ f ≤ hi := by
  obtain rfl | rfl := hu <;> omega

/-- The fraction of the reciprocal seed, in steps of 1 or, under RND32, 256. -/
theorem recipsFrac_accurate {unit sig : Nat} (free : Nat) (hu : unit = 1 ∨ unit = 256) (lower : 2 ^ 31 ≤ sig)
    (upper : sig < 2 ^ 32) :
    recipsFrac unit sig free < 2 ^ 31 ∧ recipsFrac unit sig free % unit = 0 ∧
      2 ^ 63 - 2 ^ 55 ≤ (2 ^ 31 + recipsFrac unit sig free) * sig ∧
      (2 ^ 31 + recipsFrac unit sig free) * sig ≤ 2 ^ 63 + 2 ^ 55 := by
  obtain ⟨lo, hi, shape, apart, small, lo_mul, hi_mul⟩ := recips_range lower upper
  obtain ⟨ge, le⟩ := clamped_between hu apart (shape unit free).symm
  exact ⟨le.trans_lt small, by rw [shape, Nat.mul_mod_left],
    lo_mul.trans (Nat.mul_le_mul_right _ (Nat.add_le_add_left ge _)),
    (Nat.mul_le_mul_right _ (Nat.add_le_add_left le _)).trans hi_mul⟩

/-! The square root seed (R238). -/

theorem isqrt_spec (k n : Nat) (h : n < 4 ^ k) : isqrt k n * isqrt k n ≤ n ∧ n < (isqrt k n + 1) * (isqrt k n + 1) := by
  induction k generalizing n with
  | zero => simp_all [isqrt]
  | succ k ih =>
    obtain ⟨below, above⟩ := ih (n / 4) (by rw [pow_succ] at h; omega)
    simp only [isqrt]
    generalize isqrt k (n / 4) = q at *
    split
    · next fits =>
      have : n < 4 * ((q + 1) * (q + 1)) := by omega
      exact ⟨fits, by linarith⟩
    · next exceeds =>
      have : 4 * (q * q) ≤ n := by omega
      exact ⟨by linarith, not_le.1 exceeds⟩

/-- The root of `2 ^ 95 / m`, cut to 32 bits and then by at most 255, is within the accuracy of the seed. -/
theorem isqrt_accurate {m r : Nat} (lower : 2 ^ 31 ≤ m) (upper : m < 2 ^ 33)
    (hr : min (isqrt 33 (2 ^ 95 / m)) (2 ^ 32 - 1) = r) :
    2 ^ 31 ≤ r ∧ r < 2 ^ 32 ∧ ∀ q, 2 ^ 31 ≤ q → q ≤ r → r ≤ q + 255 →
      225 * 2 ^ 95 ≤ 256 * (q * q * m) ∧ 256 * (q * q * m) ≤ 289 * 2 ^ 95 := by
  have hm : 0 < m := by omega
  have quot_le : 2 ^ 95 / m * m ≤ 2 ^ 95 := Nat.div_mul_le_self _ _
  have quot_ge : 2 ^ 95 < (2 ^ 95 / m + 1) * m := by rw [Nat.add_one_mul]; exact Nat.lt_div_mul_add hm
  have quot_min : 2 ^ 62 ≤ 2 ^ 95 / m := (Nat.le_div_iff_mul_le hm).2 (by omega)
  have quot_max : 2 ^ 95 / m < 4 ^ 33 := (Nat.div_lt_iff_lt_mul hm).2 (by omega)
  obtain ⟨below, above⟩ := isqrt_spec 33 _ quot_max
  generalize 2 ^ 95 / m = n at *
  generalize isqrt 33 n = root at *
  have root_min : 2 ^ 31 ≤ root := by
    by_contra small
    have : (root + 1) * (root + 1) ≤ 2 ^ 31 * 2 ^ 31 := Nat.mul_le_mul (by omega) (by omega)
    omega
  have r_max : r ≤ root := by omega
  have next_square : 2 ^ 95 ≤ (r + 1) * (r + 1) * m := by
    obtain rfl | full : r = root ∨ r = 2 ^ 32 - 1 := by omega
    · exact quot_ge.le.trans (Nat.mul_le_mul_right _ above)
    · calc 2 ^ 95 = 2 ^ 32 * 2 ^ 32 * 2 ^ 31 := by norm_num
        _ ≤ (r + 1) * (r + 1) * m := by
          have : r + 1 = 2 ^ 32 := by omega
          rw [this]
          exact Nat.mul_le_mul_left _ lower
  refine ⟨by omega, by omega, fun q hq hle hge => ⟨?_, ?_⟩⟩
  · have close : 15 * (r + 1) ≤ 16 * q := by omega
    calc 225 * 2 ^ 95 ≤ 225 * ((r + 1) * (r + 1) * m) := Nat.mul_le_mul_left _ next_square
      _ = 15 * (r + 1) * (15 * (r + 1)) * m := by ring
      _ ≤ 16 * q * (16 * q) * m := Nat.mul_le_mul_right _ (Nat.mul_le_mul close close)
      _ = 256 * (q * q * m) := by ring
  · have le : q * q * m ≤ root * root * m := Nat.mul_le_mul_right _ (Nat.mul_le_mul (hle.trans r_max) (hle.trans r_max))
    have : root * root * m ≤ n * m := Nat.mul_le_mul_right _ below
    omega

/-- The fields of a word in the result width. -/
theorem fields_narrowed (s : State) (w : W40) : fSign (narrowed s w) = fSign w ∧ fExp (narrowed s w) = fExp w ∧
    fFrac (narrowed s w) ≤ fFrac w ∧ fFrac w ≤ fFrac (narrowed s w) + 255 := by
  obtain ⟨sign, exp, frac⟩ := fields_clearLow8 w
  unfold narrowed
  split
  · exact ⟨sign, exp, by omega, by omega⟩
  · exact ⟨rfl, rfl, le_rfl, by omega⟩

theorem low8_narrowed {s : State} (h : rnd32 s = true) (w : W40) : (narrowed s w).extractLsb' 0 8 = 0 := by
  rw [narrowed, if_pos h, low8_clearLow8]

/-- The computed root is as accurate as a seed has to be. -/
theorem rsqrtsNear_exact (s : State) {a : W40} (h0 : 0 < fExp a) (h1 : fExp a < 255) :
    rsqrtsNear a (narrowed s (rsqrtsExact a)) = true := by
  have frac := fFrac_lt a
  obtain ⟨m, hm, hsig⟩ : ∃ m, (if fExp a % 2 = 1 then 2 ^ 31 + fFrac a else 2 * (2 ^ 31 + fFrac a)) = m ∧
      2 ^ 31 ≤ m ∧ m < 2 ^ 33 := ⟨_, rfl, by split <;> omega⟩
  obtain ⟨r_min, r_max, accurate⟩ := isqrt_accurate hsig.1 hsig.2 rfl
  generalize hr : min (isqrt 33 (2 ^ 95 / m)) (2 ^ 32 - 1) = r at *
  have word : rsqrtsExact a = fWord false (190 - (fExp a + 1) / 2) (r - 2 ^ 31) := by rw [← hr, ← hm]; rfl
  obtain ⟨sign, exp, frac_r⟩ :=
    fields_fWord false (exp := 190 - (fExp a + 1) / 2) (frac := r - 2 ^ 31) (by omega) (by omega)
  rw [← word] at sign exp frac_r
  obtain ⟨sign', exp', below, above⟩ := fields_narrowed s (rsqrtsExact a)
  obtain ⟨lower, upper⟩ := accurate (2 ^ 31 + fFrac (narrowed s (rsqrtsExact a))) (by omega) (by omega) (by omega)
  simp only [rsqrtsNear, sign', exp', sign, exp, Bool.not_false, Bool.true_and, Bool.and_eq_true, decide_eq_true_eq]
  refine ⟨by omega, ?_⟩
  rw [← hm] at lower upper
  split at lower
  · next odd =>
    rw [if_pos odd] at upper
    rw [show 474 - (2 * (190 - (fExp a + 1) / 2) + fExp a) = 95 by omega]
    exact ⟨lower, upper⟩
  · next even =>
    rw [if_neg even, Nat.mul_left_comm _ 2] at upper
    rw [Nat.mul_left_comm _ 2] at lower
    rw [show 474 - (2 * (190 - (fExp a + 1) / 2) + fExp a) = 94 by omega]
    omega

/-- A word near enough is a positive number whose square times the operand is within (1 ± 1/16)². -/
theorem value_of_rsqrtsNear {a w : W40} {v : Fin2} (ha : classify a = .num v) (hm : v.m ≠ 0) (hneg : v.neg = false)
    (near : rsqrtsNear a w = true) :
    ∃ q : Fin2, classify w = .num q ∧ q.neg = false ∧ (225 / 256 : ℚ) ≤ q.rat ^ 2 * v.rat ∧
      q.rat ^ 2 * v.rat ≤ 289 / 256 := by
  obtain ⟨-, -, ⟨-, hz⟩ | ⟨-, sig, exp⟩⟩ := classify_num ha
  · exact absurd hz hm
  simp only [rsqrtsNear, Bool.and_eq_true, Bool.not_eq_true', decide_eq_true_eq] at near
  obtain ⟨⟨sign, normal⟩, lower, upper⟩ := near
  refine ⟨_, classify_of_normal normal.1 normal.2, sign, ?_⟩
  rw [← sig] at lower upper
  have exponents : 2 * fExp w + fExp a ≤ 474 := by
    by_contra large
    have : 2 ^ 31 * 2 ^ 31 * 2 ^ 31 ≤ (2 ^ 31 + fFrac w) * (2 ^ 31 + fFrac w) * v.m :=
      Nat.mul_le_mul (Nat.mul_le_mul (by omega) (by omega)) (by omega)
    rw [Nat.sub_eq_zero_of_le (by omega)] at upper
    omega
  generalize hk : 474 - (2 * fExp w + fExp a) = k at lower upper
  have unit : ((2 : ℚ) ^ ((fExp w : Int) - 158)) ^ 2 * 2 ^ v.e = (2 ^ k)⁻¹ := by
    rw [← zpow_natCast, ← zpow_natCast, ← zpow_mul, ← two_zpow_add, ← zpow_neg]
    congr 1
    push_cast
    omega
  have value : Fin2.rat ⟨fSign w, 2 ^ 31 + fFrac w, (fExp w : Int) - 158⟩ ^ 2 * v.rat =
      ((2 ^ 31 + fFrac w) * (2 ^ 31 + fFrac w) * v.m : Nat) / 2 ^ k := by
    rw [Fin2.rat, Fin2.rat, sign, hneg, div_eq_mul_inv, ← unit]
    push_cast
    ring
  have pos : (0 : ℚ) < 2 ^ k := by positivity
  rw [value, le_div_iff₀ pos, div_le_iff₀ pos]
  generalize (2 ^ 31 + fFrac w) * (2 ^ 31 + fFrac w) * v.m = z at *
  qify at lower upper
  constructor <;> linarith

theorem classify_of_isZero {a : W40} (h : isZero a = true) : classify a = .num ⟨fSign a, 0, 0⟩ := by
  simp only [isZero, Bool.or_eq_true, beq_iff_eq] at h
  obtain rfl | rfl := h
  · exact classify_fZero false
  · exact classify_fZero true

/-- The reciprocal seed of a normal operand. -/
theorem recipsOf_normal (s : State) {a : W40} {v : Fin2} (h : classify a = .num v) (hpos : 0 < fExp a)
    (hle : fExp a ≤ 252) :
    ∃ f : Nat, f < 2 ^ 31 ∧ (rnd32 s = true → f % 256 = 0) ∧ |((2 ^ 31 + f) * v.m : Int) - 2 ^ 63| ≤ 2 ^ 55 ∧
      recipsOf s a = .exact (fWord v.neg (253 - fExp a) f) := by
  obtain ⟨-, -, ⟨h0, -⟩ | ⟨-, sig, -⟩⟩ := classify_num h
  · omega
  have frac := fFrac_lt a
  have steps : seedUnit s = 1 ∨ seedUnit s = 256 := by
    unfold seedUnit
    split <;> simp
  obtain ⟨small, multiple, lower, upper⟩ :=
    recipsFrac_accurate (sig := v.m) (Config.recipsFraction a).toNat steps (by omega) (by omega)
  refine ⟨_, small, fun hr => ?_, ?_, ?_⟩
  · rw [seedUnit, if_pos hr] at multiple ⊢
    exact multiple
  · have lower' : 2 ^ 63 ≤ (2 ^ 31 + recipsFrac (seedUnit s) v.m (Config.recipsFraction a).toNat) * v.m + 2 ^ 55 := by
      omega
    rw [abs_sub_le_iff]
    zify at lower' upper
    constructor <;> linarith
  · rw [recipsOf, h]
    exact (if_neg (by omega)).trans (if_neg (by omega))

/-- The square root seed of a positive normal operand: the free word or the computed root, either near enough. -/
theorem rsqrtsOf_positive (s : State) {a : W40} {v : Fin2} (h : classify a = .num v) (hm : v.m ≠ 0)
    (hneg : v.neg = false) :
    ∃ w, rsqrtsNear a (narrowed s w) = true ∧ rsqrtsOf s a = .exact (narrowed s w) := by
  obtain ⟨-, hlt, ⟨-, hz⟩ | ⟨hpos, -, -⟩⟩ := classify_num h
  · exact absurd hz hm
  have chosen : rsqrtsOf s a = .exact (if rsqrtsNear a (narrowed s ((0 : BitVec 1) ++ Config.rsqrtsMagnitude a))
      then narrowed s ((0 : BitVec 1) ++ Config.rsqrtsMagnitude a) else narrowed s (rsqrtsExact a)) := by
    rw [rsqrtsOf, h]
    exact (if_neg hm).trans (if_neg (by rw [hneg]; decide))
  by_cases near : rsqrtsNear a (narrowed s ((0 : BitVec 1) ++ Config.rsqrtsMagnitude a)) = true
  · exact ⟨_, near, chosen.trans (by rw [if_pos near])⟩
  · exact ⟨_, rsqrtsNear_exact s hpos hlt, chosen.trans (by rw [if_neg near])⟩

/-- Settles O32: the special operands, and the accuracy of the two seeds. -/
theorem seedResults : Obligations.SeedResults := by
  intro s n x hs hn a
  have recips {e : Effect} (h : floatOut n (recipsOf s a) = e) : computes (.fRecips n x) s e :=
    computes_numeric (c := .fRecips n x) hs hn rfl h
  have rsqrts {e : Effect} (h : floatOut n (rsqrtsOf s a) = e) : computes (.fRsqrts n x) s e :=
    computes_numeric (c := .fRsqrts n x) hs hn rfl h
  refine ⟨fun h => ?_, fun p h => recips ?_, fun h => rsqrts ?_, fun h => rsqrts ?_, fun v h hpos hle => ?_,
    fun v h hge => recips ?_, fun v h hm hneg => rsqrts ?_, fun v h hm hneg => ?_⟩
  · have zero := classify_of_isZero h
    refine ⟨recips ?_, rsqrts ?_⟩
    · rw [recipsOf, zero]
      exact floatOut_valued n _ true false
    · rw [rsqrtsOf, zero]
      exact floatOut_valued n _ true false
  · rw [recipsOf, h, floatOut_exact]
  · rw [rsqrtsOf, h]
    exact floatOut_exact n _
  · rw [rsqrtsOf, h]
    exact floatOut_nan1 s n
  · obtain ⟨f, small, multiple, accurate, result⟩ := recipsOf_normal s h hpos hle
    exact ⟨f, small, multiple, accurate, recips (by rw [result, floatOut_exact])⟩
  · obtain ⟨-, -, ⟨h0, -⟩ | ⟨-, sig, -⟩⟩ := classify_num h
    · omega
    · rw [recipsOf, h]
      simp only [if_neg (show ¬ v.m = 0 by omega), if_pos (show 252 < fExp a by omega)]
      exact floatOut_delivered n ⟨_, _, _⟩
  · rw [rsqrtsOf, h]
    simp only [if_neg hm, if_pos hneg, floatOut_nan1]
  · obtain ⟨w, near, result⟩ := rsqrtsOf_positive s h hm hneg
    obtain ⟨q, hq, sign, lower, upper⟩ := value_of_rsqrtsNear h hm hneg near
    exact ⟨narrowed s w, q, hq, sign, fun hr => low8_narrowed hr w, lower, upper,
      rsqrts (by rw [result, floatOut_exact])⟩

end Sys2Proof.Machine
end

-- Proofs of the statements of 42_multiplier.md.
section
/-! SUPPORT. The multiplier over the integers: its flags read off the value of a result, sums modulo 2^80, rounding,
saturation, and the floating-point product. -/

namespace Sys2Proof.Machine

/-! The flags of a fixed-point result (R264). -/

theorem top_eq_zero_iff (a : W80) (lo : Nat) : a >>> lo = 0 ↔ a.toNat < 2 ^ lo := by
  rw [← BitVec.toNat_inj, BitVec.toNat_ushiftRight, Nat.shiftRight_eq_div_pow]
  exact Nat.div_eq_zero_iff_lt (by positivity)

theorem top_eq_ones_iff (a : W80) {lo : Nat} (h : lo < 80) :
    a >>> lo = BitVec.allOnes 80 >>> lo ↔ 2 ^ 80 - 2 ^ lo ≤ a.toNat := by
  have pow : 2 ^ 80 = 2 ^ (80 - lo) * 2 ^ lo := by rw [← pow_add, Nat.sub_add_cancel h.le]
  have pos : 0 < 2 ^ lo := by positivity
  have ones : (2 ^ 80 - 1) / 2 ^ lo = 2 ^ (80 - lo) - 1 := by
    rw [pow, mul_comm, Nat.mul_sub_div _ _ _ (by positivity)]
    simp
  have bound : a.toNat / 2 ^ lo < 2 ^ (80 - lo) := (Nat.div_lt_iff_lt_mul pos).2 (pow ▸ a.isLt)
  rw [← BitVec.toNat_inj, BitVec.toNat_ushiftRight, BitVec.toNat_ushiftRight, BitVec.toNat_allOnes,
    Nat.shiftRight_eq_div_pow, Nat.shiftRight_eq_div_pow, ones]
  calc a.toNat / 2 ^ lo = 2 ^ (80 - lo) - 1 ↔ 2 ^ (80 - lo) - 1 ≤ a.toNat / 2 ^ lo := by omega
    _ ↔ (2 ^ (80 - lo) - 1) * 2 ^ lo ≤ a.toNat := Nat.le_div_iff_mul_le pos
    _ ↔ 2 ^ 80 - 2 ^ lo ≤ a.toNat := by rw [Nat.sub_mul, one_mul, ← pow]

/-- An unsigned result has a 1 from bit `lo` up when its value needs that bit. -/
theorem spills_unsigned (a : W80) (lo : Nat) : spills true a lo = decide (2 ^ lo ≤ a.toNat) := by
  rw [Bool.eq_iff_iff, decide_eq_true_eq, ← not_lt, ← top_eq_zero_iff]
  simp [spills]

/-- A twos-complement result has unlike bits from bit `lo` up when its value does not fit below them. -/
theorem spills_signed (a : W80) {lo : Nat} (h : lo < 80) :
    spills false a lo = decide (a.toInt < -2 ^ lo ∨ 2 ^ lo ≤ a.toInt) := by
  have half : 2 ^ lo ≤ 2 ^ 79 := Nat.pow_le_pow_right (by decide) (by omega)
  have cast : (2 : Int) ^ lo = (2 ^ lo : Nat) := by push_cast; rfl
  have := a.isLt
  rw [Bool.eq_iff_iff, decide_eq_true_eq, cast, BitVec.toInt_eq_toNat_cond]
  simp only [spills, Bool.false_or, Bool.and_eq_true, bne_iff_ne, ne_eq, top_eq_zero_iff, top_eq_ones_iff a h]
  split <;> omega

theorem mrOverflow_eq (uns int : Bool) (a : W80) :
    mrOverflow uns int a = if uns then decide ((if int then 2 ^ 32 else 2 ^ 64) ≤ a.toNat)
      else decide (a.toInt < -(if int then 2 ^ 31 else 2 ^ 63) ∨ (if int then 2 ^ 31 else 2 ^ 63) ≤ a.toInt) := by
  cases uns
  case false => cases int <;> exact spills_signed a (by decide)
  case true => cases int <;> exact spills_unsigned a _

theorem mrUnderflow_eq (uns int : Bool) (a : W80) :
    mrUnderflow uns int a =
      (!int && (if uns then decide (a.toNat < 2 ^ 32) else decide (-2 ^ 32 ≤ a.toInt ∧ a.toInt < 2 ^ 32)) &&
        decide (a.toNat % 2 ^ 32 ≠ 0)) := by
  have low : (a.extractLsb' 0 32 != 0) = decide (a.toNat % 2 ^ 32 ≠ 0) := by
    rw [Bool.eq_iff_iff, bne_iff_ne, decide_eq_true_eq, ne_eq, ← BitVec.toNat_inj, BitVec.extractLsb'_toNat]
    rfl
  have upper : (!spills uns a 32) =
      if uns then decide (a.toNat < 2 ^ 32) else decide (-2 ^ 32 ≤ a.toInt ∧ a.toInt < 2 ^ 32) := by
    cases uns
    case false =>
      rw [spills_signed a (by decide), ← decide_not]
      exact decide_eq_decide.2 (by rw [not_or, not_lt, not_le])
    case true =>
      rw [spills_unsigned, ← decide_not]
      exact decide_eq_decide.2 not_le
  rw [mrUnderflow, low, upper]

theorem mrFlags_eq_productFlags (uns int : Bool) (a : W80) : mrFlags uns int a = productFlags uns int a := by
  have sign : a.getLsbD 79 = decide (a.toInt < 0) := getLsbD_top_eq_decide_neg a
  simp only [mrFlags, mulOut, productFlags, mrOverflow_eq, mrUnderflow_eq, sign, flagBit_false]
  simp only [BitVec.ofNat_eq_ofNat, BitVec.or_zero]

/-! A fixed-point result in the words of the claims (R263, R270, R271). -/

theorem out32_eq (int : Bool) (a : W80) : out32 int a = resultField int a := by
  apply BitVec.eq_of_toNat_eq
  cases int <;> simp [out32, resultField, Nat.shiftRight_eq_div_pow]

theorem toReg_mrFlags (n : Reg) (uns int : Bool) (a : W80) :
    Effect.toReg n (put32 (out32 int a)) (mrFlags uns int a) = productToReg n uns int a := by
  rw [out32_eq, mrFlags_eq_productFlags]
  rfl

theorem toMr_mrFlags (s : State) (back uns int : Bool) (a : W80) :
    Effect.toMr s back a (mrFlags uns int a) = productToMr s back uns int a := by
  rw [mrFlags_eq_productFlags]
  rfl

/-- A result sent to Rn runs with its value and the flags of that value. -/
theorem computes_toReg {c : Compute} {s : State} {n : Reg} {uns int : Bool} {a b : W80} (hs : flowReady s = true)
    (he : computeEffect c s = .ok (.toReg n (put32 (out32 int a)) (mrFlags uns int a))) (h : a = b) :
    computes (.ofCompute c) s (productToReg n uns int b) :=
  computes_of_effect_eq hs he (h ▸ toReg_mrFlags n uns int a)

/-- A result sent to MRF or MRB likewise. -/
theorem computes_toMr {c : Compute} {s : State} {back uns int : Bool} {a b : W80} (hs : flowReady s = true)
    (he : computeEffect c s = .ok (.toMr s back a (mrFlags uns int a))) (h : a = b) :
    computes (.ofCompute c) s (productToMr s back uns int b) :=
  computes_of_effect_eq hs he (h ▸ toMr_mrFlags s back uns int a)

/-! Products and accumulations (R262, D24). -/

theorem mulInput_eq (sg : Sgn) (v : W32) : mulInput sg v = if sg = .s then v.toInt else (v.toNat : Int) := by
  cases sg <;> rfl

theorem mulTerm_eq (md : MulMod) (x y : W32) : mulTerm md x y = BitVec.ofInt 80 (exactProduct md x y) := by
  simp only [mulTerm, exactProduct, mulInput_eq]

theorem product_eq (s : State) (x y : Reg) (md : MulMod) :
    product s x y md = productWord md (exactProduct md (regFx s x) (regFx s y)) := by
  rw [product, mulTerm_eq]
  rfl

theorem accumulated_eq (s : State) (back : Bool) (x y : Reg) (md : MulMod) :
    accumulated s back x y md =
      productWord md ((mrReg s back).toInt + exactProduct md (regFx s x) (regFx s y)) := by
  rw [accumulated, mulTerm_eq, productWord, BitVec.ofInt_add, BitVec.ofInt_toInt]
  rfl

theorem decumulated_eq (s : State) (back : Bool) (x y : Reg) (md : MulMod) :
    decumulated s back x y md =
      productWord md ((mrReg s back).toInt - exactProduct md (regFx s x) (regFx s y)) := by
  rw [decumulated, mulTerm_eq, productWord, Int.sub_eq_add_neg, BitVec.ofInt_add, BitVec.ofInt_neg,
    BitVec.ofInt_toInt, ← BitVec.sub_eq_add_neg]
  rfl

/-- Settles O35: the term is the exact product modulo 2^80, and so are its sum with MR and its difference from MR. -/
theorem fixedProductResults : Obligations.FixedProductResults := by
  intro s n x y md hs z alone plus less
  have term : product s x y md = alone := product_eq s x y md
  have sum (back : Bool) : accumulated s back x y md = plus back := accumulated_eq s back x y md
  have difference (back : Bool) : decumulated s back x y md = less back := decumulated_eq s back x y md
  exact ⟨computes_toReg (c := .mulR n x y md) hs rfl term, computes_toMr (c := .mulMrf x y md) hs rfl term,
    computes_toMr (c := .mulMrb x y md) hs rfl term,
    computes_toReg (c := .macAddRMrf n x y md) hs rfl (sum false),
    computes_toReg (c := .macAddRMrb n x y md) hs rfl (sum true),
    computes_toMr (c := .macAddMrf x y md) hs rfl (sum false),
    computes_toMr (c := .macAddMrb x y md) hs rfl (sum true),
    computes_toReg (c := .macSubRMrf n x y md) hs rfl (difference false),
    computes_toReg (c := .macSubRMrb n x y md) hs rfl (difference true),
    computes_toMr (c := .macSubMrf x y md) hs rfl (difference false),
    computes_toMr (c := .macSubMrb x y md) hs rfl (difference true)⟩

/-! Rounding (R265). -/

/-- Masking bits out takes away the number they make up. -/
theorem and_not_eq_sub {w : Nat} (b m : BitVec w) : b &&& ~~~m = b - (b &&& m) := by
  have disjoint : (b &&& ~~~m) &&& (b &&& m) = 0#w := by grind
  have union : (b &&& ~~~m) ||| (b &&& m) = b := by grind
  rw [eq_sub_iff_add_eq, BitVec.add_eq_or_of_and_eq_zero _ _ disjoint, union]

theorem toNat_clear32 (b : W80) :
    (b &&& ~~~((1 : W80) <<< 32)).toNat = b.toNat / 2 ^ 33 * 2 ^ 33 + b.toNat % 2 ^ 32 := by
  have bit : b &&& ((1 : W80) <<< 32) = if b.getLsbD 32 then BitVec.twoPow 80 32 else 0 := BitVec.and_twoPow b 32
  have value : (BitVec.twoPow 80 32).toNat = 2 ^ 32 := BitVec.toNat_twoPow_of_lt (by decide)
  rw [and_not_eq_sub, bit, BitVec.getLsbD, Nat.testBit_eq_decide_div_mod_eq]
  simp only [decide_eq_true_eq]
  split
  · rw [BitVec.toNat_sub_of_le (by rw [BitVec.le_def, value]; omega), value]
    omega
  · rw [sub_zero]
    omega

/-- Away from a tie the rounded register is the sum with 2^31; on a tie bit 32 becomes 0. -/
theorem rndMr_toNat (a : W80) : (rndMr a).toNat =
    if a.toNat % 2 ^ 32 = 2 ^ 31 then (a.toNat + 2 ^ 31) % 2 ^ 80 / 2 ^ 33 * 2 ^ 33 else (a.toNat + 2 ^ 31) % 2 ^ 80 := by
  have tie : a.extractLsb' 0 32 = 0x80000000 ↔ a.toNat % 2 ^ 32 = 2 ^ 31 := by
    rw [← BitVec.toNat_inj, BitVec.extractLsb'_toNat]
    rfl
  have sum : (a + 0x80000000).toNat = (a.toNat + 2 ^ 31) % 2 ^ 80 := BitVec.toNat_add a _
  simp only [rndMr, tie]
  split
  · rw [toNat_clear32, sum]
    omega
  · exact sum

theorem rndMr_high (a : W80) : (rndMr a).toNat / 2 ^ 32 =
    (a.toNat / 2 ^ 32 + (if 2 ^ 31 < a.toNat % 2 ^ 32 ∨ (a.toNat % 2 ^ 32 = 2 ^ 31 ∧ a.toNat / 2 ^ 32 % 2 = 1)
      then 1 else 0)) % 2 ^ 48 := by
  have := a.isLt
  rw [rndMr_toNat]
  split <;> split <;> omega

theorem rndMr_low (a : W80) : (rndMr a).toNat % 2 ^ 32 = (a.toNat + 2 ^ 31) % 2 ^ 32 := by
  rw [rndMr_toNat]
  split <;> omega

/-! Saturation (R266). -/

/-- SAT's sign and format letters name a range, and MV tells that the value is out of it. -/
theorem mrOverflow_iff (md : SatMod) (a : W80) : mrOverflow (md.sg == .u) (!md.frac) a = true ↔
    satValue md a < (satBounds md).1 ∨ (satBounds md).2 < satValue md a := by
  obtain ⟨sg, frac⟩ := md
  cases sg
  case s => cases frac <;> simp [mrOverflow_eq, satValue, satBounds] <;> omega
  case u => cases frac <;> simp [mrOverflow_eq, satValue, satBounds] <;> omega

theorem ofInt_satValue (md : SatMod) (a : W80) : BitVec.ofInt 80 (satValue md a) = a := by
  unfold satValue
  split
  · exact BitVec.ofInt_toInt
  · exact BitVec.eq_of_toNat_eq (by simp)

/-- Only a twos-complement value can be below its range. -/
theorem satMr_below {md : SatMod} {a : W80} (h : satValue md a < (satBounds md).1) :
    satMr md a = BitVec.ofInt 80 (satBounds md).1 := by
  rw [satMr, if_pos ((mrOverflow_iff md a).2 (.inl h))]
  obtain ⟨sg, frac⟩ := md
  cases sg
  case s =>
    have neg : a.getLsbD 79 = true := by
      rw [getLsbD_top_eq_decide_neg]
      cases frac <;> simp [satValue, satBounds] at h ⊢ <;> omega
    cases frac <;> exact if_pos neg
  case u => cases frac <;> simp [satValue, satBounds] at h <;> omega

theorem satMr_above {md : SatMod} {a : W80} (h : (satBounds md).2 < satValue md a) :
    satMr md a = BitVec.ofInt 80 (satBounds md).2 := by
  rw [satMr, if_pos ((mrOverflow_iff md a).2 (.inr h))]
  obtain ⟨sg, frac⟩ := md
  cases sg
  case s =>
    have nonneg : ¬ a.getLsbD 79 = true := by
      rw [getLsbD_top_eq_decide_neg]
      cases frac <;> simp [satValue, satBounds] at h ⊢ <;> omega
    cases frac <;> exact if_neg nonneg
  case u => cases frac <;> rfl

theorem satBounds_ordered (md : SatMod) : (satBounds md).1 ≤ (satBounds md).2 := by
  obtain ⟨sg, frac⟩ := md
  cases sg <;> cases frac <;> decide

theorem satMr_eq_saturate (md : SatMod) (a : W80) : satMr md a = saturate md a := by
  have ordered := satBounds_ordered md
  unfold saturate
  obtain below | above := lt_or_ge (satValue md a) (satBounds md).1
  · rw [satMr_below below, max_eq_left (by omega)]
  obtain above' | below := lt_or_ge (satBounds md).2 (satValue md a)
  · rw [satMr_above above', min_eq_left above'.le, max_eq_right ordered]
  · rw [min_eq_right below, max_eq_right above, ofInt_satValue, satMr, if_neg]
    rw [mrOverflow_iff]
    omega

/-- Settles O36: rounding over the naturals, and the saturated value as the nearest one of the range. -/
theorem saturateRoundResults : Obligations.SaturateRoundResults := by
  refine ⟨rndMr_high, rndMr_low, fun s n md sg hs => ⟨?_, ?_⟩⟩
  · have nearest (back : Bool) := satMr_eq_saturate md (mrReg s back)
    exact ⟨computes_toReg (c := .satRMrf n md) hs rfl (nearest false),
      computes_toReg (c := .satRMrb n md) hs rfl (nearest true),
      computes_toMr (c := .satMrf md) hs rfl (nearest false), computes_toMr (c := .satMrb md) hs rfl (nearest true)⟩
  · exact ⟨computes_toReg (c := .rndRMrf n sg) hs rfl rfl, computes_toReg (c := .rndRMrb n sg) hs rfl rfl,
      computes_toMr (c := .rndMrf sg) hs rfl rfl, computes_toMr (c := .rndMrb sg) hs rfl rfl⟩

/-! The floating-point product (R292). -/

theorem fMulOut_invalid (s : State) (n : Reg) :
    fMulOut n (.invalid s) = ⟨[(n, nan1 s)], none, ⟨mulMask, flagBit 9 true, flagBit 9 true⟩⟩ := by
  simp [fMulOut, FOut.invalid, Effect.toReg, mulOut]

theorem fSign_fInf (neg : Bool) : fSign (fInf neg) = neg := (fields_fWord neg (by decide) (by decide)).1

theorem fMulOut_infinite (n : Reg) (neg : Bool) :
    fMulOut n (.exact (fInf neg)) = ⟨[(n, fInf neg)], none, ⟨mulMask, flagBit 6 neg, 0⟩⟩ := by
  simp [fMulOut, FOut.exact, FOut.valued, Effect.toReg, mulOut, fSign_fInf]

theorem fMulOut_delivered (n : Reg) (d : Delivered) : fMulOut n (.ofDelivered d) = ⟨[(n, d.word)], none,
    ⟨mulMask, flagBit 6 (fSign d.word) ||| flagBit 7 d.ovf ||| flagBit 8 d.unf,
      flagBit 7 d.ovf ||| flagBit 8 d.unf⟩⟩ := by
  simp [fMulOut, FOut.ofDelivered, FOut.valued, Effect.toReg, mulOut]

section
variable {s : State} {a b : W40} {p q : Bool} {v w : Fin2}

theorem fProduct_nan (h : classify a = .nan ∨ classify b = .nan) : fProduct s a b = .invalid s := by
  obtain h | h := h
  · rw [fProduct, h]
  · cases ha : classify a <;> simp [fProduct, ha, h]

/-- An Infinity and a finite operand, in either order. -/
theorem fProduct_inf_num (h : classify a = .inf p ∧ classify b = .num v ∨ classify a = .num v ∧ classify b = .inf p) :
    fProduct s a b = if v.m = 0 then .invalid s else .exact (fInf (p != v.neg)) := by
  obtain ⟨ha, hb⟩ | ⟨ha, hb⟩ := h
  · simp only [fProduct, ha, hb]
  · simp only [fProduct, ha, hb, bne_comm (a := v.neg)]

theorem fProduct_inf_inf (ha : classify a = .inf p) (hb : classify b = .inf q) :
    fProduct s a b = .exact (fInf (p != q)) := by
  simp only [fProduct, ha, hb]

theorem fProduct_num (ha : classify a = .num v) (hb : classify b = .num w) :
    fProduct s a b = .ofDelivered (delivered s (v.mul w)) := by
  simp only [fProduct, ha, hb, delivered]

end

/-- Settles O38: the classes of the two operands decide the product and its flags. -/
theorem floatProductResult : Obligations.FloatProductResult := by
  intro s n x y hs hn a b invalid infinite
  have runs {o : FOut} {e : Effect} (h : fProduct s (regF s x) (regF s y) = o) (he : fMulOut n o = e) :
      computes (.fMul n x y) s e :=
    computes_of_effect_eq (c := .fMul n x y) hs rfl (by rw [compFMul, numeric_reference hn, h, he])
  refine ⟨fun h => ?_, fun p v zero h => ?_, fun p v nonzero h => ?_, fun p q ha hb => ?_, fun v w ha hb => ?_⟩
  · exact runs (fProduct_nan h) (fMulOut_invalid s n)
  · exact runs ((fProduct_inf_num h).trans (if_pos zero)) (fMulOut_invalid s n)
  · exact runs ((fProduct_inf_num h).trans (if_neg nonzero)) (fMulOut_infinite n _)
  · exact runs (fProduct_inf_inf ha hb) (fMulOut_infinite n _)
  · exact runs (fProduct_num ha hb) (fMulOut_delivered n _)

end Sys2Proof.Machine
end

-- Proofs of the statements of 43_shifter.md.
section
/-! SUPPORT. The shifter bit by bit: shifts and rotations, bit operations, fields, leading bits, and the short float. -/

namespace Sys2Proof.Machine

/-! The effect of a shifter operation (R310, R312). -/

theorem shiftToReg_eq_shiftEffect (n : Reg) (o : ShiftOut) : shiftToReg n o = shiftEffect n o.word o.sv := by
  simp [shiftToReg, shiftEffect, Effect.toReg, shiftOut]

/-- A shifter operation runs with its word and its SV in any form they can be written. -/
theorem computes_shift {c : Compute} {s : State} {n : Reg} {o : ShiftOut} {r : W32} {sv : Bool}
    (hs : flowReady s = true) (he : computeEffect c s = .ok (shiftToReg n o)) (hr : o.word = r) (hv : o.sv = sv) :
    computes (.ofCompute c) s (shiftEffect n r sv) :=
  computes_of_effect_eq hs he (hr ▸ hv ▸ shiftToReg_eq_shiftEffect n o)

/-! Shift amounts (R313, R315). -/

/-- An amount beyond 64 places stands for one of 64. -/
theorem clampShift_cases (d : Int) :
    clampShift d = d ∨ 64 < d ∧ clampShift d = 64 ∨ d < -64 ∧ clampShift d = -64 := by
  unfold clampShift
  omega

theorem shiftedBit_clampShift (x : W32) (d : Int) {k : Nat} (hk : k < 32) :
    shiftedBit x (clampShift d) k = shiftedBit x d k := by
  obtain h | ⟨far, h⟩ | ⟨far, h⟩ := clampShift_cases d
  · rw [h]
  · have out : ¬ 0 ≤ (k : Int) - d ∧ ¬ 0 ≤ (k : Int) - 64 := by omega
    simp only [shiftedBit, h, out, decide_false, Bool.false_and]
  · rw [h, shiftedBit, shiftedBit, BitVec.getLsbD_of_ge _ _ (by omega), BitVec.getLsbD_of_ge _ _ (by omega),
      Bool.and_false, Bool.and_false]

theorem arithmeticBit_clampShift (x : W32) (d : Int) {k : Nat} (hk : k < 32) :
    arithmeticBit x (clampShift d) k = arithmeticBit x d k := by
  obtain h | ⟨far, h⟩ | ⟨far, h⟩ := clampShift_cases d
  · rw [h]
  · have out : ¬ 0 ≤ (k : Int) - d ∧ ¬ 0 ≤ (k : Int) - 64 := by omega
    simp only [arithmeticBit, h, out, decide_false, Bool.false_and]
  · have sign : ¬ (k : Int) - d < 32 ∧ ¬ (k : Int) - -64 < 32 := by omega
    have inside : 0 ≤ (k : Int) - d ∧ 0 ≤ (k : Int) - -64 := by omega
    simp only [arithmeticBit, h, sign, inside, if_false]

/-! Logical shifts (R313). -/

theorem hasBits_shiftLeft (x : W32) (m : Nat) : hasBits (x <<< m) (shiftedBit x m) := by
  intro k hk
  have place : ((k : Int) - m).toNat = k - m := by omega
  rw [shiftedBit, BitVec.getLsbD_shiftLeft, place, decide_eq_true hk, Bool.true_and, ← decide_not]
  congr 2
  exact propext (by omega)

theorem hasBits_ushiftRight (x : W32) (m : Nat) : hasBits (x >>> m) (shiftedBit x (-m)) := by
  intro k hk
  have place : ((k : Int) - -m).toNat = m + k := by omega
  rw [shiftedBit, BitVec.getLsbD_ushiftRight, place, decide_eq_true (by omega), Bool.true_and]

theorem ofNat_mul_two_pow (x : W32) (m : Nat) : BitVec.ofNat 32 (x.toNat * 2 ^ m) = x <<< m := by
  apply BitVec.eq_of_toNat_eq
  rw [BitVec.toNat_ofNat, BitVec.toNat_shiftLeft, Nat.shiftLeft_eq]

theorem ofNat_div_two_pow (x : W32) (m : Nat) : BitVec.ofNat 32 (x.toNat / 2 ^ m) = x >>> m := by
  apply BitVec.eq_of_toNat_eq
  rw [BitVec.toNat_ofNat, BitVec.toNat_ushiftRight, Nat.shiftRight_eq_div_pow]
  exact Nat.mod_eq_of_lt ((Nat.div_le_self _ _).trans_lt x.isLt)

theorem hasBits_lshiftOf (x : W32) (d : Int) : hasBits (lshiftOf x d).word (shiftedBit x d) := by
  intro k hk
  rw [← shiftedBit_clampShift x d hk]
  simp only [lshiftOf]
  split
  · next left => rw [ofNat_mul_two_pow, hasBits_shiftLeft x _ k hk, Int.toNat_of_nonneg left]
  · next right =>
    rw [ofNat_div_two_pow, hasBits_ushiftRight x _ k hk, Int.toNat_of_nonneg (by omega), Int.neg_neg]

theorem two_pow_le_mul_two_pow_iff (x p m : Nat) : 2 ^ p ≤ x * 2 ^ m ↔ 2 ^ (p - m) ≤ x := by
  obtain inside | far := Nat.le_total m p
  · conv_lhs => rw [← Nat.sub_add_cancel inside, pow_add]
    exact Nat.mul_le_mul_right_iff (by positivity)
  · rw [Nat.sub_eq_zero_of_le far, pow_zero, Nat.one_le_iff_ne_zero]
    refine ⟨fun h zero => ?_, fun h => ?_⟩
    · rw [zero, zero_mul] at h
      exact absurd h (by simp)
    · exact (Nat.pow_le_pow_right (by decide) far).trans (Nat.le_mul_of_pos_left _ (by omega))

/-- A 1 leaves to the left when the product with the power of two needs more than 32 bits. -/
theorem losesOne_natCast (x : W32) (m : Nat) : losesOne x m = decide (2 ^ 32 ≤ x.toNat * 2 ^ m) := by
  refine decide_eq_decide.2 ?_
  rw [two_pow_le_mul_two_pow_iff]
  constructor
  · rintro ⟨_, k, one, leaves⟩
    exact (Nat.pow_le_pow_right (by decide) (by omega)).trans (Nat.ge_two_pow_of_testBit one)
  · intro large
    obtain ⟨k, high, one⟩ := Nat.exists_ge_and_testBit_of_ge_two_pow large
    have hk : k < 32 := BitVec.lt_of_getLsbD one
    exact ⟨by omega, ⟨k, hk⟩, one, by simp only; omega⟩

theorem losesOne_of_nonpos (x : W32) {d : Int} (h : d ≤ 0) : losesOne x d = false :=
  decide_eq_false fun ⟨pos, _⟩ => absurd h (Int.not_le.2 pos)

theorem losesOne_clampShift (x : W32) (d : Int) : losesOne x (clampShift d) = losesOne x d := by
  obtain h | ⟨far, h⟩ | ⟨far, h⟩ := clampShift_cases d
  · rw [h]
  · rw [h]
    refine decide_eq_decide.2 (and_congr (by omega) (exists_congr fun k => and_congr_right fun _ => ?_))
    omega
  · rw [losesOne_of_nonpos x (by omega), losesOne_of_nonpos x (by omega)]

theorem lshiftOf_sv (x : W32) (d : Int) : (lshiftOf x d).sv = losesOne x d := by
  rw [← losesOne_clampShift]
  simp only [lshiftOf]
  split
  · next left =>
    conv_rhs => rw [← Int.toNat_of_nonneg left]
    rw [losesOne_natCast]
  · next right => rw [losesOne_of_nonpos x (by omega)]

/-! Arithmetic shifts (R315). -/

theorem ofInt_mul_two_pow (z : Int) (m : Nat) : BitVec.ofInt 32 (z * 2 ^ m) = BitVec.ofInt 32 z <<< m := by
  have factor : BitVec.ofInt 32 (2 ^ m) = BitVec.twoPow 32 m := by
    apply BitVec.eq_of_toNat_eq
    rw [BitVec.toNat_twoPow, ← BitVec.toNat_ofNat, ← BitVec.ofInt_natCast]
    push_cast
    rfl
  rw [BitVec.ofInt_mul, factor, BitVec.shiftLeft_eq_mul_twoPow]

theorem ofInt_div_two_pow (x : W32) (m : Nat) : BitVec.ofInt 32 (x.toInt / 2 ^ m) = x.sshiftRight m := by
  rw [BitVec.sshiftRight_eq, Int.shiftRight_eq_div_pow]
  push_cast
  rfl

theorem hasBits_shiftLeft_arithmetic (x : W32) (m : Nat) : hasBits (x <<< m) (arithmeticBit x m) := by
  intro k hk
  rw [hasBits_shiftLeft x m k hk, shiftedBit, arithmeticBit, if_pos (by omega)]

theorem hasBits_sshiftRight (x : W32) (m : Nat) : hasBits (x.sshiftRight m) (arithmeticBit x (-m)) := by
  intro k hk
  have place : ((k : Int) - -m).toNat = m + k := by omega
  have inside : 0 ≤ (k : Int) - -m := by omega
  have sign : (k : Int) - -m < 32 ↔ m + k < 32 := by omega
  simp only [arithmeticBit, BitVec.getLsbD_sshiftRight, place, inside, sign, hk.not_ge, BitVec.msb_eq_getLsbD_last,
    decide_true, decide_false, Bool.not_false]

theorem hasBits_ashiftOf (x : W32) (d : Int) : hasBits (ashiftOf x d).word (arithmeticBit x d) := by
  intro k hk
  rw [← arithmeticBit_clampShift x d hk]
  simp only [ashiftOf]
  split
  · next left =>
    rw [ofInt_mul_two_pow, BitVec.ofInt_toInt, hasBits_shiftLeft_arithmetic x _ k hk, Int.toNat_of_nonneg left]
  · next right =>
    rw [ofInt_div_two_pow, hasBits_sshiftRight x _ k hk, Int.toNat_of_nonneg (by omega), Int.neg_neg]

/-- A number other than 0 times a power of two from 2^32 up is no 32-bit integer. -/
theorem outside_of_far {z : Int} (hz : z ≠ 0) {m : Nat} (far : 32 ≤ m) : z * 2 ^ m < -2 ^ 31 ∨ 2 ^ 31 ≤ z * 2 ^ m := by
  have pow : (2 : Int) ^ 32 ≤ 2 ^ m := pow_le_pow_right₀ (by decide) far
  obtain neg | pos := lt_or_gt_of_ne hz
  · exact .inl (by nlinarith)
  · exact .inr (by nlinarith)

theorem outside_clampShift (z : Int) {d : Int} (h : 0 < d) :
    (z * 2 ^ (clampShift d).toNat < -2 ^ 31 ∨ 2 ^ 31 ≤ z * 2 ^ (clampShift d).toNat) ↔
      (z * 2 ^ d.toNat < -2 ^ 31 ∨ 2 ^ 31 ≤ z * 2 ^ d.toNat) := by
  obtain same | ⟨far, same⟩ | ⟨far, _⟩ := clampShift_cases d
  · rw [same]
  · by_cases hz : z = 0
    · simp [hz]
    · exact iff_of_true (outside_of_far hz (by omega)) (outside_of_far hz (by omega))
  · omega

/-- An arithmetic shift to the right, or by no place, is a 32-bit integer. -/
theorem div_two_pow_bounds (x : W32) (m : Nat) : -2 ^ 31 ≤ x.toInt / 2 ^ m ∧ x.toInt / 2 ^ m < 2 ^ 31 := by
  have one : (1 : Int) ≤ 2 ^ m := one_le_pow₀ (by decide)
  have lower : -2 ^ 31 ≤ x.toInt := BitVec.le_toInt x
  have upper : x.toInt < 2 ^ 31 := BitVec.toInt_lt
  exact ⟨Int.le_ediv_of_mul_le (by positivity) (by nlinarith), Int.ediv_lt_of_lt_mul (by positivity) (by nlinarith)⟩

theorem ashiftOf_sv (x : W32) (d : Int) : (ashiftOf x d).sv = true ↔
    0 < d ∧ (x.toInt * 2 ^ d.toNat < -2 ^ 31 ∨ 2 ^ 31 ≤ x.toInt * 2 ^ d.toNat) := by
  have sign : 0 < clampShift d ↔ 0 < d := by unfold clampShift; omega
  simp only [ashiftOf, decide_eq_true_eq, Int.sub_one_lt_iff]
  by_cases left : 0 < d
  · rw [if_pos (sign.2 left).le, outside_clampShift _ left, and_iff_right left]
  · have bounds := div_two_pow_bounds x (-clampShift d).toNat
    have same : (if 0 ≤ clampShift d then x.toInt * 2 ^ (clampShift d).toNat
        else x.toInt / 2 ^ (-clampShift d).toNat) = x.toInt / 2 ^ (-clampShift d).toNat := by
      split
      · rw [show clampShift d = 0 by omega]
        simp
      · rfl
    rw [same]
    exact iff_of_false (by omega) fun h => left h.1

/-! Rotations (R317). -/

theorem hasBits_rotOf (x : W32) (d : Int) :
    hasBits (rotOf x d).word (fun k => x.getLsbD (((k : Int) - d) % 32).toNat) := by
  intro k hk
  simp only [rotOf, BitVec.getLsbD_rotateLeft, hk, decide_true, Bool.true_and, Bool.cond_eq_ite, decide_eq_true_eq]
  split
  · congr 1
    omega
  · congr 1
    omega

/-- Settles O39: the model's clamped amounts shift as the whole ones do, and each word is read bit by bit. -/
theorem shiftResults : Obligations.ShiftResults := by
  intro s n x y d8 d hs a
  refine ⟨(lshiftOf a d).word, (ashiftOf a d).word, (rotOf a d).word, (ashiftOf a d).sv, hasBits_lshiftOf a d,
    hasBits_ashiftOf a d, hasBits_rotOf a d, ashiftOf_sv a d, ?_, ?_⟩
  · rintro rfl
    have lost := lshiftOf_sv a (regFx s y).toInt
    exact ⟨computes_shift (c := .lshift n x y) hs rfl rfl lost, computes_shift (c := .orLshift n x y) hs rfl rfl lost,
      computes_shift (c := .ashift n x y) hs rfl rfl rfl, computes_shift (c := .orAshift n x y) hs rfl rfl rfl,
      computes_shift (c := .rot n x y) hs rfl rfl rfl⟩
  · rintro rfl
    have lost := lshiftOf_sv a d8.toInt
    exact ⟨computes_shift (c := .lshiftImm n x d8) hs rfl rfl lost,
      computes_shift (c := .orLshiftImm n x d8) hs rfl rfl lost, computes_shift (c := .ashiftImm n x d8) hs rfl rfl rfl,
      computes_shift (c := .orAshiftImm n x d8) hs rfl rfl rfl, computes_shift (c := .rotImm n x d8) hs rfl rfl rfl⟩

/-! Bit operations (R318 to R321). -/

theorem getLsbD_bitMask (b : Nat) {k : Nat} (hk : k < 32) : (bitMask b).getLsbD k = decide (k = b) := by
  rw [bitMask, Nat.one_shiftLeft, BitVec.natCast_eq_ofNat, BitVec.getLsbD_ofNat, Nat.testBit_two_pow,
    decide_eq_true hk, Bool.true_and]
  exact decide_eq_decide.2 eq_comm

theorem inField_eq (d : Int) : inField d = !decide (d < 0 ∨ 32 ≤ d) := by
  rw [inField, ← decide_not, decide_eq_decide]
  omega

theorem bitOpOf_sv (x : W32) (d : Int) (f : W32 → W32 → W32) : (bitOpOf x d f).sv = decide (d < 0 ∨ 32 ≤ d) := by
  rw [bitOpOf, inField_eq]
  cases decide (d < 0 ∨ 32 ≤ d) <;> rfl

/-- An operation that acts bit by bit changes bit `d` only. -/
theorem hasBits_bitOpOf (x : W32) (d : Int) {f : W32 → W32 → W32} {g : Bool → Bool → Bool}
    (hf : ∀ m k, k < 32 → (f x m).getLsbD k = g (x.getLsbD k) (m.getLsbD k)) (keeps : ∀ b, g b false = b) :
    hasBits (bitOpOf x d f).word fun k => if (k : Int) = d then g (x.getLsbD k) true else x.getLsbD k := by
  intro k hk
  have place (inside : inField d = true) : k = d.toNat ↔ (k : Int) = d := by
    simp only [inField, decide_eq_true_eq] at inside
    omega
  simp only [bitOpOf]
  split
  · next inside =>
    rw [hf _ k hk, getLsbD_bitMask _ hk, decide_eq_decide.2 (place inside)]
    split
    · next here => rw [decide_eq_true here]
    · next other => rw [decide_eq_false other, keeps]
  · next outside =>
    have other : (k : Int) ≠ d := fun here => outside (by simp only [inField, decide_eq_true_eq]; omega)
    rw [if_neg other]

theorem hasBits_bclr (x : W32) (d : Int) :
    hasBits (bitOpOf x d clearBits).word fun k => if (k : Int) = d then false else x.getLsbD k := by
  have bits := hasBits_bitOpOf x d (f := clearBits) (g := fun a m => a && !m)
    (fun m k hk => by simp [clearBits, hk]) Bool.and_true
  simpa using bits

theorem hasBits_bset (x : W32) (d : Int) :
    hasBits (bitOpOf x d setBits).word fun k => if (k : Int) = d then true else x.getLsbD k := by
  have bits := hasBits_bitOpOf x d (f := setBits) (g := or) (fun m k _ => BitVec.getLsbD_or) Bool.or_false
  simpa using bits

theorem hasBits_btgl (x : W32) (d : Int) :
    hasBits (bitOpOf x d toggleBits).word fun k => if (k : Int) = d then !x.getLsbD k else x.getLsbD k := by
  have bits := hasBits_bitOpOf x d (f := toggleBits) (g := xor) (fun m k _ => BitVec.getLsbD_xor) Bool.xor_false
  simpa using bits

theorem testBit_eq (x : W32) (d : Int) : testBit x d =
    ⟨shiftMask, flagBit 11 (decide (d < 0 ∨ 32 ≤ d)) |||
      flagBit 12 (decide (d < 0 ∨ 32 ≤ d) || !x.getLsbD d.toNat), 0⟩ := by
  rw [testBit, inField_eq]
  cases decide (d < 0 ∨ 32 ≤ d) <;> simp [shiftOut, bitOf]

/-- A test of a bit runs with its flags in the words of the claims. -/
theorem computes_testBit {c : Compute} {s : State} {x : W32} {d : Int} (hs : flowReady s = true)
    (he : computeEffect c s = .ok (.flagsOnly (testBit x d))) :
    computes (.ofCompute c) s ⟨[], none, ⟨shiftMask, flagBit 11 (decide (d < 0 ∨ 32 ≤ d)) |||
      flagBit 12 (decide (d < 0 ∨ 32 ≤ d) || !x.getLsbD d.toNat), 0⟩⟩ :=
  computes_of_effect_eq hs he (testBit_eq x d ▸ rfl)

/-- Settles O40: each operation acts on the one bit of its mask, and outside the field on none. -/
theorem bitOperationResults : Obligations.BitOperationResults := by
  intro s n x y d8 d hs a out
  have sv := bitOpOf_sv a d
  refine ⟨(bitOpOf a d clearBits).word, (bitOpOf a d setBits).word, (bitOpOf a d toggleBits).word, hasBits_bclr a d,
    hasBits_bset a d, hasBits_btgl a d, ?_, ?_⟩
  · rintro rfl
    exact ⟨computes_shift (c := .bclr n x y) hs rfl rfl (sv _), computes_shift (c := .bset n x y) hs rfl rfl (sv _),
      computes_shift (c := .btgl n x y) hs rfl rfl (sv _), computes_testBit (c := .btst x y) hs rfl⟩
  · rintro rfl
    exact ⟨computes_shift (c := .bclrImm n x d8) hs rfl rfl (sv _),
      computes_shift (c := .bsetImm n x d8) hs rfl rfl (sv _), computes_shift (c := .btglImm n x d8) hs rfl rfl (sv _),
      computes_testBit (c := .btstImm x d8) hs rfl⟩

/-! Fields (R322 to R327). -/

theorem msb_field (x : W32) (bit len : Nat) :
    (x.extractLsb' bit len).msb = (decide (0 < len) && x.getLsbD (bit + len - 1)) := by
  rw [BitVec.msb_eq_getLsbD_last, BitVec.getLsbD_extractLsb']
  by_cases pos : 0 < len
  · rw [Nat.add_sub_assoc pos, decide_eq_true pos, decide_eq_true (by omega)]
  · rw [decide_eq_false pos, decide_eq_false (by omega), Bool.false_and, Bool.false_and]

/-- The `len` bits of x from `bit` up, read as a signed number: their top bit weighs against them. -/
theorem signedField_eq (x : W32) (bit len : Nat) :
    (if 0 < len ∧ x.toNat.testBit (bit + len - 1) then (x.toNat / 2 ^ bit % 2 ^ len : Int) - 2 ^ len
      else x.toNat / 2 ^ bit % 2 ^ len) = (x.extractLsb' bit len).toInt := by
  rw [BitVec.toInt_eq_msb_cond, msb_field, BitVec.extractLsb'_toNat, Nat.shiftRight_eq_div_pow]
  simp only [Bool.and_eq_true, decide_eq_true_eq, BitVec.getLsbD]
  push_cast
  rfl

theorem hasBits_fextOf (x : W32) (bit len : Nat) : hasBits (fextOf x bit len).word (extractBit x bit len) := by
  intro k hk
  rw [fextOf, BitVec.getLsbD_ofNat, Nat.testBit_mod_two_pow, Nat.testBit_div_two_pow, decide_eq_true hk, Bool.true_and,
    extractBit, BitVec.getLsbD, Nat.add_comm]

theorem fextSeOf_word (x : W32) (bit len : Nat) :
    (fextSeOf x bit len).word = (x.extractLsb' bit len).signExtend 32 := by
  simp only [fextSeOf, signedField_eq]
  rfl

theorem hasBits_fextSeOf (x : W32) (bit len : Nat) : hasBits (fextSeOf x bit len).word (extractSeBit x bit len) := by
  intro k hk
  rw [fextSeOf_word, BitVec.getLsbD_signExtend, decide_eq_true hk, Bool.true_and, msb_field,
    BitVec.getLsbD_extractLsb', extractSeBit]
  by_cases field : k < len
  · rw [if_pos field, if_neg (Nat.not_le.2 field), extractBit]
  · rw [if_neg field, if_pos (Nat.not_lt.1 field)]

/-! A deposit is the field of the low bits moved left. -/

theorem fdepOf_word (x : W32) (bit len : Nat) : (fdepOf x bit len).word = (fextOf x 0 len).word <<< bit := by
  apply BitVec.eq_of_toNat_eq
  simp [fdepOf, fextOf, Nat.shiftLeft_eq]

theorem fdepSeOf_word (x : W32) (bit len : Nat) : (fdepSeOf x bit len).word = (fextSeOf x 0 len).word <<< bit := by
  simp only [fdepSeOf, fextSeOf, ofInt_mul_two_pow, Nat.zero_add, pow_zero, Int.ediv_one]

theorem getLsbD_shiftLeft_of_hasBits {r : W32} {f : Nat → Bool} (h : hasBits r f) (m : Nat) {k : Nat} (hk : k < 32) :
    (r <<< m).getLsbD k = (decide (m ≤ k) && f (k - m)) := by
  rw [BitVec.getLsbD_shiftLeft, h (k - m) (by omega), decide_eq_true hk, Bool.true_and, ← decide_not,
    decide_eq_decide.2 Nat.not_lt]

theorem depositBit_eq_extractBit (x : W32) (bit len k : Nat) :
    depositBit x bit len k = (decide (bit ≤ k) && extractBit x 0 len (k - bit)) := by
  have field : bit ≤ k ∧ k < bit + len ↔ bit ≤ k ∧ k - bit < len := by omega
  rw [depositBit, extractBit, Nat.zero_add, decide_eq_decide.2 field, Bool.decide_and, Bool.and_assoc]

theorem depositSeBit_eq_extractSeBit (x : W32) (bit len k : Nat) :
    depositSeBit x bit len k = (decide (bit ≤ k) && extractSeBit x 0 len (k - bit)) := by
  rw [depositSeBit, extractSeBit, Nat.zero_add, depositBit_eq_extractBit]
  by_cases above : bit + len ≤ k
  · rw [if_pos above, if_pos (by omega), decide_eq_true (by omega : bit ≤ k), Bool.true_and]
  · by_cases low : bit ≤ k
    · rw [if_neg above, if_neg (by omega)]
    · rw [if_neg above, decide_eq_false low, Bool.false_and, Bool.false_and]

theorem hasBits_fdepOf (x : W32) (bit len : Nat) : hasBits (fdepOf x bit len).word (depositBit x bit len) := by
  intro k hk
  rw [fdepOf_word, getLsbD_shiftLeft_of_hasBits (hasBits_fextOf x 0 len) bit hk, depositBit_eq_extractBit]

theorem hasBits_fdepSeOf (x : W32) (bit len : Nat) : hasBits (fdepSeOf x bit len).word (depositSeBit x bit len) := by
  intro k hk
  rw [fdepSeOf_word, getLsbD_shiftLeft_of_hasBits (hasBits_fextSeOf x 0 len) bit hk, depositSeBit_eq_extractSeBit]

theorem bit6Of_eq {y : W32} {bit len : BitVec 6} (h : y.toNat % 2 ^ 12 = len.toNat * 2 ^ 6 + bit.toNat) :
    bit6Of y = bit.toNat := by
  have := bit.isLt
  rw [bit6Of, BitVec.extractLsb'_toNat, Nat.shiftRight_eq_div_pow]
  omega

theorem len6Of_eq {y : W32} {bit len : BitVec 6} (h : y.toNat % 2 ^ 12 = len.toNat * 2 ^ 6 + bit.toNat) :
    len6Of y = len.toNat := by
  have := bit.isLt
  have := len.isLt
  rw [len6Of, BitVec.extractLsb'_toNat, Nat.shiftRight_eq_div_pow]
  omega

/-- Settles O41: a field is read off bit by bit; the register forms take its place and length from Ry. -/
theorem fieldResults : Obligations.FieldResults := by
  intro s n x y bit len hs a o sv
  refine ⟨(fdepOf a bit.toNat len.toNat).word, (fdepSeOf a bit.toNat len.toNat).word,
    (fextOf a bit.toNat len.toNat).word, (fextSeOf a bit.toNat len.toNat).word, hasBits_fdepOf _ _ _,
    hasBits_fdepSeOf _ _ _, hasBits_fextOf _ _ _, hasBits_fextSeOf _ _ _, ?_, fun h => ?_⟩
  · exact ⟨computes_shift (c := .fdepImm n x bit len) hs rfl rfl rfl,
      computes_shift (c := .orFdepImm n x bit len) hs rfl rfl rfl,
      computes_shift (c := .fdepSeImm n x bit len) hs rfl rfl rfl,
      computes_shift (c := .orFdepSeImm n x bit len) hs rfl rfl rfl,
      computes_shift (c := .fextImm n x bit len) hs rfl rfl rfl,
      computes_shift (c := .fextSeImm n x bit len) hs rfl rfl rfl⟩
  · simp only [sv, ← bit6Of_eq h, ← len6Of_eq h]
    exact ⟨computes_shift (c := .fdep n x y) hs rfl rfl rfl, computes_shift (c := .orFdep n x y) hs rfl rfl rfl,
      computes_shift (c := .fdepSe n x y) hs rfl rfl rfl, computes_shift (c := .orFdepSe n x y) hs rfl rfl rfl,
      computes_shift (c := .fext n x y) hs rfl rfl rfl, computes_shift (c := .fextSe n x y) hs rfl rfl rfl⟩

/-! Leading bits (R328 to R331). -/

theorem leads_leadingZeros (x : W32) : leads x false (leadingZeros x) := by
  rw [leadingZeros]
  split
  · next zero =>
    subst zero
    exact ⟨le_rfl, fun _ _ => BitVec.getLsbD_zero, fun h => absurd h (lt_irrefl _)⟩
  · next other =>
    have nonzero : x.toNat ≠ 0 := fun h => other (BitVec.eq_of_toNat_eq h)
    have short : x.toNat.log2 < 32 := (Nat.log2_lt nonzero).2 x.isLt
    refine ⟨by omega, fun j hj => ?_, fun _ => ?_⟩
    · exact Nat.testBit_lt_two_pow (Nat.lt_log2_self.trans_le (Nat.pow_le_pow_right (by decide) (by omega)))
    · have top : x.getLsbD x.toNat.log2 = true := Nat.testBit_log2 nonzero
      rw [show 31 - (31 - x.toNat.log2) = x.toNat.log2 by omega, top]
      decide

/-- The leading ones of a word are the leading zeros of its complement. -/
theorem leads_true_of_not {x : W32} {k : Nat} (h : leads (~~~x) false k) : leads x true k := by
  have flip (j : Nat) : (~~~x).getLsbD (31 - j) = !x.getLsbD (31 - j) := by
    rw [BitVec.getLsbD_not, decide_eq_true (by omega), Bool.true_and]
  obtain ⟨bound, same, other⟩ := h
  exact ⟨bound, fun j hj => by simpa [flip] using same j hj, fun hk => by simpa [flip] using other hk⟩

/-- The number of leading bits equal to the sign. -/
def signBits (x : W32) : Nat := if bitOf x 31 then leadingZeros (~~~x) else leadingZeros x

theorem leads_signBits (x : W32) : leads x (x.getLsbD 31) (signBits x) := by
  rw [signBits, bitOf]
  cases x.getLsbD 31
  case false => exact leads_leadingZeros x
  case true => exact leads_true_of_not (leads_leadingZeros _)

theorem expOf_eq (x : W32) : expOf x = BitVec.ofInt 32 (1 - (signBits x : Int)) := rfl

theorem expToReg_eq (n : Reg) (r x : W32) : expToReg n r (bitOf x 31) =
    ⟨[(n, put32 r)], none, ⟨shiftMask, flagBit 12 (r == 0) ||| flagBit 13 (x.getLsbD 31), 0⟩⟩ := by
  simp [expToReg, Effect.toReg, shiftOut, bitOf]

/-! The fields of a short float and of a 32-bit float (R332, R333). -/

/-- The exponent of a short float. -/
def shortExp (h : W32) : Nat := h.toNat / 2 ^ 11 % 2 ^ 4

/-- The fraction of a short float. -/
def shortFrac (h : W32) : Nat := h.toNat % 2 ^ 11

/-- The exponent of a 32-bit float. -/
def singleExp (v : W32) : Nat := v.toNat / 2 ^ 23 % 2 ^ 8

/-- The fraction of a 32-bit float. -/
def singleFrac (v : W32) : Nat := v.toNat % 2 ^ 23

theorem toNat_getLsbD (v : W32) (k : Nat) : (v.getLsbD k).toNat = v.toNat / 2 ^ k % 2 := Nat.toNat_testBit ..

/-- The fields of the upper 32 bits of a 40-bit float. -/
theorem singleFields_fx (w : W40) :
    (fx w).getLsbD 31 = fSign w ∧ singleExp (fx w) = fExp w ∧ singleFrac (fx w) = fFrac w / 2 ^ 8 := by
  have word := toNat_eq_fields w
  have exp := fExp_lt w
  have frac := fFrac_lt w
  have sign := (fSign w).toNat_lt
  have upper : (fx w).toNat = w.toNat / 2 ^ 8 := by
    have := w.isLt
    rw [fx, BitVec.extractLsb'_toNat, Nat.shiftRight_eq_div_pow]
    omega
  rw [Bool.eq_iff_iff, ← Bool.toNat_eq_one, ← Bool.toNat_eq_one, toNat_getLsbD, singleExp, singleFrac, upper, word]
  omega

/-! FUNPACK (R333). -/

theorem unpackShort_eq (h : W32) : unpackShort h =
    if shortExp h ≠ 0 then fWord (h.getLsbD 15) (120 + shortExp h) (shortFrac h * 2 ^ 20)
    else if shortFrac h = 0 then fZero (h.getLsbD 15)
    else fWord (h.getLsbD 15) (120 - (10 - (shortFrac h).log2))
      ((shortFrac h * 2 ^ (11 - (shortFrac h).log2) - 2 ^ 11) * 2 ^ 20) := by
  simp only [unpackShort, BitVec.extractLsb'_toNat, Nat.shiftRight_eq_div_pow, pow_zero, Nat.div_one]
  rfl

theorem shortExp_lt (h : W32) : shortExp h < 2 ^ 4 := Nat.mod_lt _ (by decide)

theorem shortFrac_lt (h : W32) : shortFrac h < 2 ^ 11 := Nat.mod_lt _ (by decide)

theorem unpackShort_normal {h : W32} (normal : shortExp h ≠ 0) :
    fSign (unpackShort h) = h.getLsbD 15 ∧ fExp (unpackShort h) = 120 + shortExp h ∧
      fFrac (unpackShort h) = shortFrac h * 2 ^ 20 := by
  have := shortExp_lt h
  have := shortFrac_lt h
  rw [unpackShort_eq, if_pos normal]
  exact fields_fWord _ (by omega) (by omega)

theorem unpackShort_zero {h : W32} (gradual : shortExp h = 0) (zero : shortFrac h = 0) :
    unpackShort h = fZero (h.getLsbD 15) := by
  rw [unpackShort_eq, if_neg (not_not.2 gradual), if_pos zero]

/-- A fraction alone is normalised by the number `z` of its leading zeros. -/
theorem unpackShort_gradual {h : W32} (gradual : shortExp h = 0) (nonzero : shortFrac h ≠ 0) :
    fSign (unpackShort h) = h.getLsbD 15 ∧ ∃ z : Nat, z ≤ 10 ∧ 2 ^ (10 - z) ≤ shortFrac h ∧
      shortFrac h < 2 ^ (11 - z) ∧ fExp (unpackShort h) = 120 - z ∧
      2 ^ 31 + fFrac (unpackShort h) = shortFrac h * 2 ^ (21 + z) := by
  rw [unpackShort_eq, if_neg (not_not.2 gradual), if_neg nonzero]
  have lower : 2 ^ (shortFrac h).log2 ≤ shortFrac h := Nat.log2_self_le nonzero
  have upper : shortFrac h < 2 ^ ((shortFrac h).log2 + 1) := Nat.lt_log2_self
  have bits : (shortFrac h).log2 < 11 := (Nat.log2_lt nonzero).2 (shortFrac_lt h)
  generalize shortFrac h = f at *
  generalize f.log2 = n at *
  have pow : 2 ^ 11 = 2 ^ n * 2 ^ (11 - n) := by
    rw [← pow_add, show n + (11 - n) = 11 by omega]
  have normalised : 2 ^ 11 ≤ f * 2 ^ (11 - n) ∧ f * 2 ^ (11 - n) < 2 ^ 12 := by
    have pos : 0 < 2 ^ (11 - n) := by positivity
    rw [pow_succ] at upper
    constructor <;> nlinarith
  obtain ⟨sign, exp, frac⟩ := fields_fWord (h.getLsbD 15) (exp := 120 - (10 - n))
    (frac := (f * 2 ^ (11 - n) - 2 ^ 11) * 2 ^ 20) (by omega) (by omega)
  have shift : f * 2 ^ (21 + (10 - n)) = f * 2 ^ (11 - n) * 2 ^ 20 := by
    rw [mul_assoc, ← pow_add, show 11 - n + 20 = 21 + (10 - n) by omega]
  refine ⟨sign, 10 - n, by omega, ?_, ?_, exp, ?_⟩
  · rwa [show 10 - (10 - n) = n by omega]
  · rwa [show 11 - (10 - n) = n + 1 by omega]
  · rw [frac, shift]
    omega

/-! FPACK (R332). -/

/-- Dropping bits gives the quotient, or one more where the bits dropped are not all 0. -/
theorem packRound_cases (v : W32) (x d : Nat) :
    packRound v x d = x / 2 ^ d ∨ packRound v x d = x / 2 ^ d + 1 ∧ x % 2 ^ d ≠ 0 := by
  rw [packRound]
  split
  · next up => exact .inr ⟨rfl, up.1⟩
  · exact .inl rfl

theorem packRound_exact (v : W32) (q d : Nat) : packRound v (q * 2 ^ d) d = q := by
  rw [packRound, Nat.mul_mod_left, Nat.mul_div_cancel _ (by positivity), if_neg (fun h => h.1 rfl), Nat.add_zero]

theorem packMagnitude_eq (v : W32) : packMagnitude v =
    if 135 < singleExp v then 2 ^ 15
    else if 120 < singleExp v then packRound v ((singleExp v - 120) * 2 ^ 23 + singleFrac v) 12
    else if 109 < singleExp v then packRound v (2 ^ 23 + singleFrac v) (133 - singleExp v)
    else 0 := by
  simp only [packMagnitude, BitVec.extractLsb'_toNat, Nat.shiftRight_eq_div_pow, pow_zero, Nat.div_one]
  rfl

section
variable {v : W32}

theorem packMagnitude_overflow (h : 135 < singleExp v) : packMagnitude v = 2 ^ 15 := by
  rw [packMagnitude_eq, if_pos h]

theorem packMagnitude_normal (lo : 120 < singleExp v) (hi : singleExp v ≤ 135) :
    packMagnitude v = packRound v ((singleExp v - 120) * 2 ^ 23 + singleFrac v) 12 := by
  rw [packMagnitude_eq, if_neg hi.not_gt, if_pos lo]

theorem packMagnitude_gradual (lo : 109 < singleExp v) (hi : singleExp v ≤ 120) :
    packMagnitude v = packRound v (2 ^ 23 + singleFrac v) (133 - singleExp v) := by
  rw [packMagnitude_eq, if_neg (by omega), if_neg hi.not_gt, if_pos lo]

theorem packMagnitude_zero (h : singleExp v ≤ 109) : packMagnitude v = 0 := by
  rw [packMagnitude_eq, if_neg (by omega), if_neg (by omega), if_neg h.not_gt]

end

/-- A packed word: the sign, the magnitude up to the largest one, and whether it went past that. -/
theorem packShort_parts (v : W32) :
    (packShort v).1.toNat = 2 ^ 15 * (v.getLsbD 31).toNat + min (packMagnitude v) (2 ^ 15 - 1) ∧
      (packShort v).2 = decide (2 ^ 15 ≤ packMagnitude v) := by
  have sign : (if bitOf v 31 then 2 ^ 15 else 0) = 2 ^ 15 * (v.getLsbD 31).toNat := by
    rw [bitOf]
    cases v.getLsbD 31 <;> rfl
  have := (v.getLsbD 31).toNat_lt
  simp only [packShort, sign]
  split
  · next past => exact ⟨by rw [BitVec.toNat_ofNat]; omega, (decide_eq_true past).symm⟩
  · next fits => exact ⟨by rw [BitVec.toNat_ofNat]; omega, (decide_eq_false fits).symm⟩

/-- The low 15 bits of a packed word, its sign, and the bits above. -/
theorem packShort_fields (v : W32) : (packShort v).1.toNat < 2 ^ 16 ∧ (packShort v).1.getLsbD 15 = v.getLsbD 31 ∧
    (packShort v).1.toNat % 2 ^ 15 = min (packMagnitude v) (2 ^ 15 - 1) := by
  have sign := (v.getLsbD 31).toNat_lt
  rw [Bool.eq_iff_iff, ← Bool.toNat_eq_one, ← Bool.toNat_eq_one, toNat_getLsbD, (packShort_parts v).1]
  omega

theorem singleFrac_lt (v : W32) : singleFrac v < 2 ^ 23 := Nat.mod_lt _ (by decide)

/-- A normal result is the quotient or one more, unless it goes past the largest short float. -/
theorem packShort_normal {v : W32} (lo : 120 < singleExp v) (hi : singleExp v ≤ 135) :
    let m := (packShort v).1.toNat % 2 ^ 15
    let x := (singleExp v - 120) * 2 ^ 23 + singleFrac v
    let q := x / 2 ^ 12
    ((packShort v).2 = false ∧ (m = q ∨ m = q + 1 ∧ x % 2 ^ 12 ≠ 0)) ∨
      ((packShort v).2 = true ∧ m = 2 ^ 15 - 1 ∧ q = 2 ^ 15 - 1 ∧ x % 2 ^ 12 ≠ 0) := by
  intro m x q
  have magnitude : m = min (packMagnitude v) (2 ^ 15 - 1) := (packShort_fields v).2.2
  have frac := singleFrac_lt v
  have bound : q ≤ 2 ^ 15 - 1 := by omega
  have rounded : packMagnitude v = q ∨ packMagnitude v = q + 1 ∧ x % 2 ^ 12 ≠ 0 :=
    packMagnitude_normal lo hi ▸ packRound_cases v x 12
  rw [(packShort_parts v).2, decide_eq_true_eq, decide_eq_false_iff_not]
  omega

/-- A gradual result is the quotient or one more, and fits. -/
theorem packShort_gradual {v : W32} (lo : 109 < singleExp v) (hi : singleExp v ≤ 120) :
    let m := (packShort v).1.toNat % 2 ^ 15
    let x := 2 ^ 23 + singleFrac v
    let q := x / 2 ^ (133 - singleExp v)
    (packShort v).2 = false ∧ (m = q ∨ m = q + 1 ∧ x % 2 ^ (133 - singleExp v) ≠ 0) := by
  intro m x q
  have magnitude : m = min (packMagnitude v) (2 ^ 15 - 1) := (packShort_fields v).2.2
  have frac := singleFrac_lt v
  have bound : q ≤ x / 2 ^ 13 :=
    Nat.div_le_div_left (Nat.pow_le_pow_right (by decide) (by omega)) (by positivity)
  have rounded : packMagnitude v = q ∨ packMagnitude v = q + 1 ∧ x % 2 ^ (133 - singleExp v) ≠ 0 :=
    packMagnitude_gradual lo hi ▸ packRound_cases v x _
  rw [(packShort_parts v).2, decide_eq_false_iff_not]
  omega

/-- FPACK undoes FUNPACK: no bit is dropped. -/
theorem packMagnitude_unpackShort (h : W32) :
    packMagnitude (fx (unpackShort h)) = 2 ^ 11 * shortExp h + shortFrac h := by
  obtain ⟨_, exp, frac⟩ := singleFields_fx (unpackShort h)
  have := shortExp_lt h
  by_cases gradual : shortExp h = 0
  case neg =>
    obtain ⟨_, e, f⟩ := unpackShort_normal gradual
    have whole : (120 + shortExp h - 120) * 2 ^ 23 + shortFrac h * 2 ^ 20 / 2 ^ 8 =
        (2 ^ 11 * shortExp h + shortFrac h) * 2 ^ 12 := by omega
    rw [packMagnitude_normal (by omega) (by omega), exp, frac, e, f, whole, packRound_exact]
  case pos =>
    by_cases zero : shortFrac h = 0
    case pos =>
      have e : fExp (unpackShort h) = 0 := by
        rw [unpackShort_zero gradual zero]
        exact (fields_fWord _ (by decide) (by decide)).2.1
      rw [packMagnitude_zero (by omega), gradual, zero, Nat.mul_zero]
    case neg =>
      obtain ⟨_, z, hz, _, _, e, f⟩ := unpackShort_gradual gradual zero
      have scale : shortFrac h * 2 ^ (21 + z) = shortFrac h * 2 ^ (13 + z) * 2 ^ 8 := by
        rw [mul_assoc, ← pow_add, show 13 + z + 8 = 21 + z by omega]
      have whole : 2 ^ 23 + fFrac (unpackShort h) / 2 ^ 8 = shortFrac h * 2 ^ (13 + z) := by omega
      rw [packMagnitude_gradual (by omega) (by omega), exp, frac, e, whole, show 133 - (120 - z) = 13 + z by omega,
        packRound_exact, gradual, Nat.mul_zero, Nat.zero_add]

theorem fSign_unpackShort (h : W32) : fSign (unpackShort h) = h.getLsbD 15 := by
  by_cases gradual : shortExp h = 0
  case neg => exact (unpackShort_normal gradual).1
  case pos =>
    by_cases zero : shortFrac h = 0
    case pos =>
      rw [unpackShort_zero gradual zero]
      exact (fields_fWord _ (by decide) (by decide)).1
    case neg => exact (unpackShort_gradual gradual zero).1

theorem packShort_unpackShort {h : W32} (short : h.toNat < 2 ^ 16) : packShort (fx (unpackShort h)) = (h, false) := by
  obtain ⟨word, past⟩ := packShort_parts (fx (unpackShort h))
  have exp := shortExp_lt h
  have frac := shortFrac_lt h
  have number : 2 ^ 15 * (h.getLsbD 15).toNat + (2 ^ 11 * shortExp h + shortFrac h) = h.toNat := by
    rw [toNat_getLsbD, shortExp, shortFrac]
    omega
  rw [packMagnitude_unpackShort] at word past
  rw [(singleFields_fx _).1, fSign_unpackShort, min_eq_left (by omega), number] at word
  exact Prod.ext (BitVec.eq_of_toNat_eq word) (past.trans (decide_eq_false (by omega)))

/-! The effects of FPACK and FUNPACK. -/

theorem compFpack_reference {s : State} {n x : Reg} (hn : s.cfg.numerics = []) :
    compFpack n x s = ⟨[(n, put32 (packShort (regFx s x)).1)], none,
      ⟨shiftMask, flagBit 11 (packShort (regFx s x)).2, 0⟩⟩ := by
  simp [compFpack, numeric_reference hn, packOf, FOut.ofInt, Effect.toReg, shiftOut]

theorem compFunpack_reference {s : State} {n x : Reg} (hn : s.cfg.numerics = []) :
    compFunpack n x s = ⟨[(n, unpackShort (regFx s x))], none, ⟨shiftMask, 0, 0⟩⟩ := by
  simp [compFunpack, numeric_reference hn, FOut.exact, FOut.valued, Effect.toReg, shiftOut]

/-- Settles O42: FPACK drops no bit of a FUNPACK, and by the exponent rounds a quotient; the counts are leading bits. -/
theorem exponentCountShortFloatResults : Obligations.ExponentCountShortFloatResults := by
  refine ⟨fun h => packShort_unpackShort ?_, fun h => ?_, fun v => ?_, fun s n x hs => ?_⟩
  · rw [BitVec.toNat_setWidth_of_le (by decide)]
    exact h.isLt
  · exact ⟨fSign_unpackShort h, fun normal => (unpackShort_normal normal).2, unpackShort_zero,
      fun gradual nonzero => (unpackShort_gradual gradual nonzero).2⟩
  · obtain ⟨word, sign, magnitude⟩ := packShort_fields v
    have past := (packShort_parts v).2
    refine ⟨word, sign, fun h => ?_, packShort_normal, packShort_gradual, fun h => ?_⟩
    · rw [packMagnitude_overflow h] at magnitude past
      exact ⟨past, magnitude⟩
    · rw [packMagnitude_zero h] at magnitude past
      exact ⟨past, magnitude⟩
  · intro a
    refine ⟨signBits a, leadingZeros a, leadingZeros (~~~a), leads_signBits a, leads_leadingZeros a,
      leads_true_of_not (leads_leadingZeros _), ⟨?_, fun av => ?_, fun av => ?_⟩, ?_, ?_, fun hn => ⟨?_, ?_⟩⟩
    · exact computes_of_effect_eq (c := .expo n x) hs rfl (by rw [compExpo, expToReg_eq, expOf_eq])
    · exact computes_of_effect_eq (c := .expoEx n x) hs rfl (by rw [compExpoEx, if_pos av, expToReg_eq])
    · exact computes_of_effect_eq (c := .expoEx n x) hs rfl
        (by rw [compExpoEx, av, if_neg Bool.false_ne_true, expToReg_eq, expOf_eq])
    · exact computes_shift (c := .leftz n x) hs rfl rfl rfl
    · exact computes_shift (c := .lefto n x) hs rfl rfl rfl
    · exact computes_of_effect_eq (c := .fpack n x) hs rfl (compFpack_reference hn)
    · exact computes_of_effect_eq (c := .funpack n x) hs rfl (compFunpack_reference hn)

end Sys2Proof.Machine
end

-- Proofs of the statements of 44_multifunction.md.
section
/-! SUPPORT. Multifunction computations: what two units leave together, and the two results of a dual add/subtract. -/

namespace Sys2Proof.Machine

/-! Two units at work (R370, R377). -/

/-- What a multiplier and an ALU operation leave together, in the words of the claims. -/
def Effect.withAlu (low high : Effect) : Effect :=
  ⟨low.regs ++ high.regs, low.mr, ⟨aluMask ||| mulMask, low.flags.val ||| high.flags.val,
    low.flags.sticky ||| high.flags.sticky⟩⟩

/-- `e` is the effect of a multiplier operation, which the claims write `p`. -/
def MultiplierPart (e p : Effect) : Prop := e = p ∧ e.flags.mask = mulMask

/-- `e` is the effect of an ALU operation other than a compare, which the claims write `q`. -/
def AluPart (e q : Effect) : Prop := e = q ∧ e.flags.mask = aluMask ∧ e.mr = none

theorem beside_eq_withAlu {low high p q : Effect} (hl : MultiplierPart low p) (hh : AluPart high q) :
    low.beside high = p.withAlu q := by
  obtain ⟨rfl, lowMask⟩ := hl
  obtain ⟨rfl, highMask, highMr⟩ := hh
  have masks : low.flags.mask ||| high.flags.mask = aluMask ||| mulMask := by
    rw [lowMask, highMask, BitVec.or_comm]
  have mr : (low.beside high).mr = low.mr := by
    simp only [Effect.beside, highMr]
    cases low.mr <;> rfl
  simp only [Effect.withAlu, ← masks, ← mr]
  rfl

/-- A multifunction instruction runs with the effects of its two units, each in the words of the claims. -/
theorem computes_withAlu {c : Compute} {s : State} {low high p q : Effect} (hs : flowReady s = true)
    (he : computeEffect c s = .ok (low.beside high)) (hl : MultiplierPart low p) (hh : AluPart high q) :
    computes (.ofCompute c) s (p.withAlu q) :=
  computes_of_effect_eq hs he (beside_eq_withAlu hl hh)

/-- A multifunction instruction whose ALU part can be refused runs where that part has an effect. -/
theorem computes_withAlu_of_map {c : Compute} {s : State} {r : Res Effect} {low p q : Effect} (hs : flowReady s = true)
    (he : computeEffect c s = r.map low.beside) (hr : r = .ok q) (hl : MultiplierPart low p) (hq : AluPart q q) :
    computes (.ofCompute c) s (p.withAlu q) :=
  computes_withAlu hs (by rw [he, hr]; rfl) hl hq

/-- A computation that is refused refuses the instruction, once the sequencer has answered. -/
theorem exec_of_refused {c : Compute} {s : State} {r : Refusal} (hs : flowReady s = true)
    (he : computeEffect c s = refused r) : exec (.ofCompute c) s = .refused r := by
  obtain ⟨t, ht⟩ := sequenced_of_flowReady hs
  rw [exec_ofCompute, he, tryCompute, always, ht]
  rfl

/-! A dual add/subtract (R370 to R372). -/

/-- Two ALU operations at once: the results of both, their flags ORed. -/
def Effect.dual (p q : Effect) : Effect :=
  ⟨p.regs ++ q.regs, .none, ⟨aluMask, p.flags.val ||| q.flags.val, p.flags.sticky ||| q.flags.sticky⟩⟩

theorem flagBit_or (k : Nat) (a b : Bool) : flagBit k (a || b) = flagBit k a ||| flagBit k b := by
  cases a <;> cases b <;> simp [flagBit]

theorem AluFlags.word_or (a b : AluFlags) : (a.or b).word = a.word ||| b.word := by
  simp only [AluFlags.word, AluFlags.or, flagBit_or]
  ac_rfl

theorem overflowSticky_or (a b : Bool) :
    aluSticky false false (a || b) false = aluSticky false false a false ||| aluSticky false false b false := by
  simp [aluSticky, flagBit_or]

/-- The fixed-point dual add/subtract is the sum and the difference alone. -/
theorem dualFixed_eq {a d : Reg} (s : State) (x y : W32) (h : a ≠ d) :
    dualFixed s a d x y = .ok ((fixedSum s a x y false).dual (fixedSum s d x (~~~y) true)) := by
  rw [dualFixed, if_neg h]
  simp only [aluOut, AluFlags.word_or, overflowSticky_or]
  rfl

/-- The floating-point dual add/subtract is the sum and the difference alone. -/
theorem dualFloat_eq {a d : Reg} (s : State) (x y : Reg) (h : a ≠ d) :
    dualFloat s a d x y = .ok ((compFAdd a x y s).dual (compFSub d x y s)) := by
  rw [dualFloat, if_neg h]
  simp only [aluOut, AluFlags.word_or]
  rfl

/-- With one destination for both results a dual add/subtract is refused (U24). -/
theorem dualFixed_same {s : State} {a d : Reg} {x y : W32} (h : a = d) :
    dualFixed s a d x y = refused .sameDualDestination := if_pos h

theorem dualFloat_same {s : State} {a d x y : Reg} (h : a = d) :
    dualFloat s a d x y = refused .sameDualDestination := if_pos h

theorem dualFixed_aluPart {s : State} {a d : Reg} {x y : W32} {q : Effect} (h : dualFixed s a d x y = .ok q) :
    AluPart q q := ⟨rfl, (dualFixed_flags h).1, (dualFixed_regs h).2⟩

theorem dualFloat_aluPart {s : State} {a d x y : Reg} {q : Effect} (h : dualFloat s a d x y = .ok q) :
    AluPart q q := ⟨rfl, (dualFloat_flags h).1, (dualFloat_regs h).2⟩

/-! The fixed-point parts (R371, R374). -/

theorem fixedSum_sum (s : State) (n : Reg) (x y : W32) :
    fixedSum s n x y false = sumEffect s n (x.toInt + y.toInt) (decide (2 ^ 32 ≤ x.toNat + y.toNat)) := by
  simpa using fixedSum_eq s n x y false

/-- A difference adds the complement with a carry in: no borrow is a carry out. -/
theorem fixedSum_difference (s : State) (n : Reg) (x y : W32) :
    fixedSum s n x (~~~y) true = sumEffect s n (x.toInt - y.toInt) (decide (y.toNat ≤ x.toNat)) := by
  have := y.isLt
  have value : x.toInt + (~~~y).toInt + true.toNat = x.toInt - y.toInt := by
    rw [toInt_not, Bool.toNat_true]
    omega
  have carry : decide (2 ^ 32 ≤ x.toNat + (~~~y).toNat + true.toNat) = decide (y.toNat ≤ x.toNat) := by
    rw [decide_eq_decide, BitVec.toNat_not, Bool.toNat_true]
    omega
  rw [fixedSum_eq, value, carry]

theorem dualFixed_eq_dualSums {a d : Reg} (s : State) (x y : W32) (h : a ≠ d) :
    dualFixed s a d x y = .ok (dualSums s a d x y) := by
  rw [dualFixed_eq s x y h, fixedSum_sum, fixedSum_difference]
  rfl

theorem productWord_ssfr (z : Int) : productWord ssfr z = rndMr (BitVec.ofInt 80 z) := if_pos rfl

theorem productWord_ssf (z : Int) : productWord ssf z = BitVec.ofInt 80 z := if_neg (by decide)

theorem mulToReg_ssfr (n : Reg) (a : W80) : mulToReg n ssfr a = productToReg n false false a :=
  toReg_mrFlags n false false a

theorem mulToMr_ssf (s : State) (a : W80) : mulToMr s false ssf a = productToMr s false false false a :=
  toMr_mrFlags s false false false a

/-! The multiplier parts of R374: SSFR to a register, SSF to MRF. -/

/-- The two modifiers differ in the rounding alone. -/
theorem exactProduct_ssf (x y : W32) : exactProduct ssf x y = exactProduct ssfr x y := rfl

section
variable (s : State) (n x y : Reg)

theorem compMulR_ssfr : MultiplierPart (compMulR n x y ssfr s) (productToReg n false false
    (rndMr (BitVec.ofInt 80 (exactProduct ssfr (regFx s x) (regFx s y))))) :=
  ⟨by rw [compMulR, mulToReg_ssfr, product_eq, productWord_ssfr], rfl⟩

theorem compMacAddRMrf_ssfr : MultiplierPart (compMacAddRMrf n x y ssfr s) (productToReg n false false
    (rndMr (BitVec.ofInt 80 ((mrReg s false).toInt + exactProduct ssfr (regFx s x) (regFx s y))))) :=
  ⟨by rw [compMacAddRMrf, mulToReg_ssfr, accumulated_eq, productWord_ssfr], rfl⟩

theorem compMacSubRMrf_ssfr : MultiplierPart (compMacSubRMrf n x y ssfr s) (productToReg n false false
    (rndMr (BitVec.ofInt 80 ((mrReg s false).toInt - exactProduct ssfr (regFx s x) (regFx s y))))) :=
  ⟨by rw [compMacSubRMrf, mulToReg_ssfr, decumulated_eq, productWord_ssfr], rfl⟩

theorem compMacAddMrf_ssf : MultiplierPart (compMacAddMrf x y ssf s) (productToMr s false false false
    (BitVec.ofInt 80 ((mrReg s false).toInt + exactProduct ssfr (regFx s x) (regFx s y)))) :=
  ⟨by rw [compMacAddMrf, mulToMr_ssf, accumulated_eq, productWord_ssf, exactProduct_ssf], rfl⟩

theorem compMacSubMrf_ssf : MultiplierPart (compMacSubMrf x y ssf s) (productToMr s false false false
    (BitVec.ofInt 80 ((mrReg s false).toInt - exactProduct ssfr (regFx s x) (regFx s y)))) :=
  ⟨by rw [compMacSubMrf, mulToMr_ssf, decumulated_eq, productWord_ssf, exactProduct_ssf], rfl⟩

end

/-- Settles O43: each instruction is one of five multiplier parts beside one of the ALU parts. -/
theorem fixedMultifunctionResults : Obligations.FixedMultifunctionResults := by
  intro s m a xm ym xa ya hs both x y z add sub avg f toR toMr
  have plain : MultiplierPart (compMulR m (quadXm xm) (quadYm ym) ssfr s) (toR z) := compMulR_ssfr s m _ _
  have accR : MultiplierPart (compMacAddRMrf m (quadXm xm) (quadYm ym) ssfr s) (toR (f + z)) :=
    compMacAddRMrf_ssfr s m _ _
  have decR : MultiplierPart (compMacSubRMrf m (quadXm xm) (quadYm ym) ssfr s) (toR (f - z)) :=
    compMacSubRMrf_ssfr s m _ _
  have accMr : MultiplierPart (compMacAddMrf (quadXm xm) (quadYm ym) ssf s) (toMr (f + z)) :=
    compMacAddMrf_ssf s _ _
  have decMr : MultiplierPart (compMacSubMrf (quadXm xm) (quadYm ym) ssf s) (toMr (f - z)) :=
    compMacSubMrf_ssf s _ _
  have sum : AluPart (compRAdd a (quadXa xa) (quadYa ya) s) add := ⟨fixedSum_sum s a x y, rfl, rfl⟩
  have difference : AluPart (compRSub a (quadXa xa) (quadYa ya) s) sub := ⟨fixedSum_difference s a x y, rfl, rfl⟩
  have average (hn : s.cfg.numerics = []) : AluPart (compRAvg a (quadXa xa) (quadYa ya) s) avg :=
    ⟨fixedAverage_reference hn, rfl, rfl⟩
  refine ⟨computes_withAlu (c := .mulRWithAdd m a xm ym xa ya) hs rfl plain sum,
    computes_withAlu (c := .mulRWithSub m a xm ym xa ya) hs rfl plain difference,
    computes_withAlu (c := .macAddMrfWithAdd a xm ym xa ya) hs rfl accMr sum,
    computes_withAlu (c := .macAddMrfWithSub a xm ym xa ya) hs rfl accMr difference,
    computes_withAlu (c := .macAddRMrfWithAdd m a xm ym xa ya) hs rfl accR sum,
    computes_withAlu (c := .macAddRMrfWithSub m a xm ym xa ya) hs rfl accR difference,
    computes_withAlu (c := .macSubMrfWithAdd a xm ym xa ya) hs rfl decMr sum,
    computes_withAlu (c := .macSubMrfWithSub a xm ym xa ya) hs rfl decMr difference,
    computes_withAlu (c := .macSubRMrfWithAdd m a xm ym xa ya) hs rfl decR sum,
    computes_withAlu (c := .macSubRMrfWithSub m a xm ym xa ya) hs rfl decR difference,
    fun hn => ⟨computes_withAlu (c := .mulRWithAvg m a xm ym xa ya) hs rfl plain (average hn),
      computes_withAlu (c := .macAddMrfWithAvg a xm ym xa ya) hs rfl accMr (average hn),
      computes_withAlu (c := .macAddRMrfWithAvg m a xm ym xa ya) hs rfl accR (average hn),
      computes_withAlu (c := .macSubMrfWithAvg a xm ym xa ya) hs rfl decMr (average hn),
      computes_withAlu (c := .macSubRMrfWithAvg m a xm ym xa ya) hs rfl decR (average hn)⟩,
    fun d => ⟨fun apart => ?_, fun rx ry apart => ?_, fun rx ry same => ⟨?_, ?_⟩⟩⟩
  · have dual := dualFixed_eq_dualSums s x y apart
    exact computes_withAlu_of_map (c := .mulRWithDual m a d xm ym xa ya) hs rfl dual plain (dualFixed_aluPart dual)
  · exact computes_of_computeEffect (c := .dualAddSub a d rx ry) hs (dualFixed_eq_dualSums s _ _ apart)
  · exact exec_of_refused (c := .dualAddSub a d rx ry) hs (dualFixed_same same)
  · exact exec_of_refused (c := .mulRWithDual m a d xm ym xa ya) hs
      (congrArg (Except.map _) (dualFixed_same same))

/-! The floating-point parts (R372, R375). -/

theorem floatOut_aluPart {n : Reg} {o : FOut} {q : Effect} (h : (.ok (floatOut n o) : Res Effect) = .ok q) :
    AluPart (floatOut n o) q := ⟨Except.ok.inj h, rfl, rfl⟩

section
variable {s : State} {x y : Reg} {v w : Fin2} (n : Reg) (hn : s.cfg.numerics = [])
  (hx : classify (regF s x) = .num v) (hy : classify (regF s y) = .num w)
include hn hx hy

theorem compFAdd_num : compFAdd n x y s = deliveredEffect n (delivered s (v.add w)) := by
  have sum := fSum_num s false hx hy
  rw [if_neg Bool.false_ne_true, scale_zero] at sum
  rw [compFAdd, fPlus, numericTwo, numeric_reference hn, sum, floatOut_delivered]

theorem compFSub_num : compFSub n x y s = deliveredEffect n (delivered s (v.add w.negated)) := by
  have difference := fSum_num s false hx (classify_fNegate_num hy)
  rw [if_neg Bool.false_ne_true, scale_zero] at difference
  rw [compFSub, fMinus, numericTwo, numeric_reference hn, difference, floatOut_delivered]

end

/-- Settles O44: the parts of each instruction are the operations alone. -/
theorem floatMultifunctionResults : Obligations.FloatMultifunctionResults := by
  intro s m a xm ym xa ya hs both x y p hp
  cases hp
  have product : MultiplierPart (compFMul m (quadXm xm) (quadYm ym) s) (compFMul m (quadXm xm) (quadYm ym) s) :=
    ⟨rfl, rfl⟩
  have dualRuns {d rx ry : Reg} {q : Effect} (h : dualFloat s a d rx ry = .ok q) :
      computes (.dualFAddSub a d rx ry) s q := computes_of_computeEffect (c := .dualFAddSub a d rx ry) hs h
  have withDualRuns {d : Reg} {q : Effect} (h : dualFloat s a d x y = .ok q) :
      computes (.fMulWithDual m a d xm ym xa ya) s ((compFMul m (quadXm xm) (quadYm ym) s).withAlu q) :=
    computes_withAlu_of_map (c := .fMulWithDual m a d xm ym xa ya) hs rfl h product (dualFloat_aluPart h)
  have runs {c : Compute} {n : Reg} {o : FOut} {q : Effect}
      (he : computeEffect c s = .ok ((compFMul m (quadXm xm) (quadYm ym) s).beside (floatOut n o)))
      (hq : (.ok (floatOut n o) : Res Effect) = .ok q) :
      computes (.ofCompute c) s ((compFMul m (quadXm xm) (quadYm ym) s).withAlu q) :=
    computes_withAlu hs he product (floatOut_aluPart hq)
  refine ⟨fun _ => runs (c := .fMulWithFAdd m a xm ym xa ya) rfl,
    fun _ => runs (c := .fMulWithFSub m a xm ym xa ya) rfl,
    fun _ => runs (c := .fMulWithFloatBy m a xm ym xa ya) rfl,
    fun _ => runs (c := .fMulWithFixBy m a xm ym xa ya) rfl,
    fun _ => runs (c := .fMulWithFAvg m a xm ym xa ya) rfl,
    fun _ => runs (c := .fMulWithFAbs m a xm ym xa) rfl,
    fun _ => runs (c := .fMulWithFMax m a xm ym xa ya) rfl,
    fun _ => runs (c := .fMulWithFMin m a xm ym xa ya) rfl,
    fun d rx ry p' q' hsum hdifference => ?_, fun d rx ry v w hn hx hy => ?_⟩
  · cases hsum
    cases hdifference
    refine ⟨fun apart => dualRuns (dualFloat_eq s rx ry apart), ?_, fun same => ⟨?_, ?_⟩⟩
    · rintro apart rfl rfl
      exact withDualRuns (dualFloat_eq s _ _ apart)
    · exact exec_of_refused (c := .dualFAddSub a d rx ry) hs (dualFloat_same same)
    · exact exec_of_refused (c := .fMulWithDual m a d xm ym xa ya) hs (congrArg (Except.map _) (dualFloat_same same))
  · intro p' q' q
    have dual (apart : a ≠ d) : dualFloat s a d rx ry = .ok q := by
      rw [dualFloat_eq s rx ry apart, compFAdd_num a hn hx hy, compFSub_num d hn hx hy]
      rfl
    refine ⟨fun apart => dualRuns (dual apart), ?_⟩
    rintro apart rfl rfl
    exact withDualRuns (dual apart)

end Sys2Proof.Machine
end

-- Proofs of the statements of 45_data_move.md.
section
/-! SUPPORT. Data moves: what leaves memory as it was, the address generators, and register moves, loads and stores by what
they do on the sequenced state. -/

namespace Sys2Proof.Machine

/-! What leaves memory as it was (R393 to R397). -/

/-- The parts of a state that a store changes. -/
def memoryPart (s : State) : Memory × List Nat × List Nat := (s.mem, s.dirty, s.rewidth)

/-- `t` has the memory of `s`, and its lists of written words. -/
def KeepsMemory (s t : State) : Prop := memoryPart t = memoryPart s

namespace KeepsMemory

variable {s t : State}

theorem of_sequenced (h : sequenced s = .ok t) : KeepsMemory s t := by
  rw [(sequenced_frame h).1]
  rfl

theorem after_applyEffect (h : KeepsMemory s t) (r : State) (e : Effect) : KeepsMemory s (applyEffect r t e) := by
  rw [applyEffect_frame]
  exact h

theorem after_effect (h : KeepsMemory s t) (r : State) {e : Res Effect} :
    Yields (e.map (applyEffect r t)) (KeepsMemory s) := yields_map fun _ => h.after_applyEffect r _

/-! Branches. -/

theorem after_goTo (h : KeepsMemory s t) (r : State) (j : A24) (db : Bool) : KeepsMemory s (goTo r t j db) := by
  cases db
  · exact h
  · exact h

theorem after_untaken (h : KeepsMemory s t) (r : State) (db : Bool) : KeepsMemory s (untaken r t db) := by
  cases db
  · exact h
  · exact h

/-! The stacks. -/

theorem after_pushPc (h : KeepsMemory s t) (a : A24) : KeepsMemory s (pushPc t a) := by
  rw [pushPc_frame]
  exact h

theorem after_popPc (h : KeepsMemory s t) (r : State) : Yields (popPc r t) (KeepsMemory s) := by
  intro u hu
  rw [(popPc_ok.1 hu).2]
  exact h

theorem after_popLoops (h : KeepsMemory s t) : Yields (popLoops t) (KeepsMemory s) := by
  intro u hu
  rw [(popLoops_ok.1 hu).2]
  exact h

theorem after_pushLoops (h : KeepsMemory s t) : KeepsMemory s (pushLoops t) := by
  rw [pushLoops_frame]
  exact h

theorem after_pushLoop (h : KeepsMemory s t) (r : State) (w : W32) (len : Fin 4) (counted : Bool) :
    KeepsMemory s (pushLoop r t w len counted) := by
  rw [pushLoop_frame]
  exact h

theorem after_pushStatus (h : KeepsMemory s t) : KeepsMemory s (pushStatus t) := by
  rw [pushStatus_frame]
  exact h

theorem after_popStatus (h : KeepsMemory s t) : Yields (popStatus t) (KeepsMemory s) := by
  intro u hu
  obtain ⟨p, l, -, rfl⟩ := popStatus_ok.1 hu
  exact h

/-! Register writes. -/

theorem after_putSreg (h : KeepsMemory s t) (r : State) (n : Sreg) (v : W32) :
    Yields (putSreg r t n v) (KeepsMemory s) := by
  intro u hu
  rw [putSreg_frame hu]
  exact h

theorem after_putLcntr (h : KeepsMemory s t) (r : State) (v : W32) : KeepsMemory s (putLcntr r t v) := by
  rw [putLcntr_frame]
  exact h

theorem after_putUreg (h : KeepsMemory s t) (r : State) (d : Ureg) (v : W48) (src : Source) :
    Yields (putUreg r t d v src) (KeepsMemory s) := by
  cases d
  case r | px | px1 | px2 | tcount | tperiod => exact yields_ok h
  case dag1 => exact yields_ok (by rw [putDag1_frame]; exact h)
  case dag2 => exact yields_ok (by rw [putDag2_frame]; exact h)
  case faddr | daddr | pc => exact yields_error _ _
  case pcstk =>
    intro u hu
    rw [(putPcstk_ok hu).1]
    exact h
  case pcstkp =>
    intro u hu
    rw [(putPcstkp_ok hu).1]
    exact h
  case laddr => exact yields_ok (by rw [putLaddr_frame]; exact h)
  case curlcntr => exact yields_ok (by rw [putCurlcntr_frame]; exact h)
  case lcntr => exact yields_ok (h.after_putLcntr _ _)
  case sys => exact h.after_putSreg _ _ _

/-! The address generators and the sides of the two-move form. -/

theorem after_updateDag1 (h : KeepsMemory s t) (r : State) (i m : Fin 8) : KeepsMemory s (updateDag1 r t i m) := by
  rw [updateDag1_frame]
  exact h

theorem after_updateDag2 (h : KeepsMemory s t) (r : State) (i m : Fin 8) : KeepsMemory s (updateDag2 r t i m) := by
  rw [updateDag2_frame]
  exact h

/-- A side that loads stores nothing. -/
theorem after_sideStore (h : KeepsMemory s t) (r : State) (sp : Space) {side : DualSide} (hside : side.store = false)
    (a : Nat) : Yields (sideStore r t sp side a) (KeepsMemory s) := by
  rw [sideStore, hside]
  exact yields_ok h

theorem after_sideWrite (h : KeepsMemory s t) (r : State) (side : DualSide) (v : W48) :
    KeepsMemory s (sideWrite r t side v) := by
  unfold sideWrite
  split
  · exact h
  · exact h

/-! Jumps, calls, returns and loops. -/

theorem after_jumpTo (h : KeepsMemory s t) (r : State) (j : A24) (db : Bool) :
    Yields (jumpTo r t j db) (KeepsMemory s) := yields_map fun _ => h.after_goTo _ _ _

theorem after_callTo (h : KeepsMemory s t) (r : State) (j : A24) (db : Bool) :
    Yields (callTo r t j db) (KeepsMemory s) := by
  have pushed : ∀ a, KeepsMemory s (pushCall r t a) := fun a => by
    rw [pushCall_frame]
    exact h.after_pushPc a
  exact yields_bind fun _ => yields_map fun _ => (pushed _).after_goTo _ _ _

theorem after_returnTo (h : KeepsMemory s t) (r : State) (db : Bool) : Yields (returnTo r t db) (KeepsMemory s) :=
  yields_bind fun _ => yields_bind fun _ => (h.after_popPc r).map fun _ hu => hu.after_goTo _ _ _

theorem after_abortLoop (h : KeepsMemory s t) (r : State) (j : A24) : Yields (abortLoop r t j) (KeepsMemory s) :=
  yields_bind fun _ => yields_bind fun _ => h.after_popLoops.bind fun _ hu => yields_bind fun _ => hu.after_popPc r

theorem after_clearCurrent (h : KeepsMemory s t) (r : State) : KeepsMemory s (clearCurrent r t) := by
  unfold clearCurrent
  split
  · exact h
  · exact h

theorem after_returnInterrupt (h : KeepsMemory s t) (r : State) (db : Bool) :
    Yields (returnInterrupt r t db) (KeepsMemory s) := by
  refine (h.after_returnTo r db).bind fun u hu => ?_
  split
  · exact yields_ok hu
  · split
    · refine hu.after_popStatus.map fun w hw => ?_
      cases db
      · exact hw
      · exact hw
    · exact yields_ok hu

theorem after_startLoop (h : KeepsMemory s t) (r : State) (e : A24) (term : Cond) :
    Yields (startLoop r t e term) (KeepsMemory s) :=
  yields_bind fun _ => yields_bind fun _ => yields_bind fun _ => yields_map fun _ =>
    (h.after_pushLoop _ _ _ _).after_pushPc _

/-! Stack instructions and the waits. -/

theorem after_doPcStack (h : KeepsMemory s t) (r : State) (op : StackOp) :
    Yields (doPcStack r t op) (KeepsMemory s) := by
  cases op with
  | none => exact yields_ok h
  | push => exact yields_map fun _ => h.after_pushPc _
  | pop => exact yields_bind fun _ => h.after_popPc r

theorem after_restoreStatus (h : KeepsMemory s t) (r : State) : Yields (restoreStatus r t) (KeepsMemory s) :=
  h.after_popStatus.map fun _ hu => hu

theorem after_doStatus (h : KeepsMemory s t) (r : State) (op : StackOp) : Yields (doStatus r t op) (KeepsMemory s) := by
  cases op with
  | none => exact yields_ok h
  | push => exact yields_ok h.after_pushStatus
  | pop => exact h.after_restoreStatus r

theorem after_waitHere (h : KeepsMemory s t) (r : State) : Yields (waitHere r t) (KeepsMemory s) := yields_map fun _ => h

/-! The forms of an instruction. -/

theorem of_always {f : State → Res State} (hf : ∀ t, KeepsMemory s t → Yields (f t) (KeepsMemory s)) :
    Leads (always s f) (KeepsMemory s) := leads_always fun t ht => hf t (of_sequenced ht)

theorem of_stackInstr {f : State → Res State} (hf : ∀ t, KeepsMemory s t → Yields (f t) (KeepsMemory s)) :
    Leads (stackInstr s f) (KeepsMemory s) := of_always fun t ht => yields_bind fun _ => hf t ht

theorem of_conditional {c : Cond} {skip : State → State} {f : State → Res State}
    (hskip : ∀ t, KeepsMemory t (skip t)) (hf : ∀ t, KeepsMemory s t → Yields (f t) (KeepsMemory s)) :
    Leads (conditional c s skip f) (KeepsMemory s) :=
  leads_conditional (fun t ht => (hskip t).trans (of_sequenced ht)) fun t ht => hf t (of_sequenced ht)

theorem of_branch {c : Cond} {db call : Bool} {e : Res Effect} {f : State → Res State}
    (hf : ∀ t, KeepsMemory s t → Yields (f t) (KeepsMemory s)) :
    Leads (branch c db call e s f) (KeepsMemory s) :=
  leads_branch (fun _ ht => (of_sequenced ht).after_untaken s db) fun _ ht => yields_bind fun _ =>
    hf _ ((of_sequenced ht).after_applyEffect s _)

end KeepsMemory

/-- A computation alone; the encoder names which one the instruction is. -/
theorem alone_keepsMemory {i : Instr} (s : State) (h : ∃ c, i.fields = aloneFields c ∧ i = .ofCompute c) :
    Leads (exec i s) (KeepsMemory s) := by
  obtain ⟨c, -, rfl⟩ := h
  rw [exec_ofCompute]
  exact KeepsMemory.of_always fun _ ht => ht.after_effect s

theorem execIdle16_keepsMemory (s : State) : Leads (execIdle16 s) (KeepsMemory s) := by
  unfold execIdle16
  split
  · exact KeepsMemory.of_always fun _ ht => ht.after_waitHere s
  · exact fun _ h => by cases h

/-- The two-move form with a load on each side. -/
theorem execDualMove_keepsMemory (cond : Cond) (c : Option Compute) {dm pm : DualSide} (s : State)
    (h : canStore (.dualMove cond c dm pm) = false) : Leads (execDualMove cond c dm pm s) (KeepsMemory s) := by
  obtain ⟨hdm, hpm⟩ := Bool.or_eq_false_iff.1 h
  exact KeepsMemory.of_conditional (fun _ => rfl) fun _ ht => yields_bind fun _ => yields_bind fun _ =>
    yields_bind fun _ => (ht.after_effect s).bind fun _ hu => (hu.after_sideStore s _ hdm _).bind fun _ hv =>
      (hv.after_sideStore s _ hpm _).map fun _ hw =>
        (((hw.after_sideWrite s _ _).after_sideWrite s _ _).after_updateDag1 s _ _).after_updateDag2 s _ _

/-- Every instruction that goes on keeps memory, but for those that can store. -/
theorem exec_keepsMemory {i : Instr} (s : State) (hi : canStore i = false) : Leads (exec i s) (KeepsMemory s) := by
  have same : ∀ t : State, KeepsMemory t (id t) := fun _ => rfl
  have unloaded : ∀ (d : Ureg) (t : State), KeepsMemory t (notLoaded d t) := fun _ _ => rfl
  cases i
  case stDmPost | stPmPost | stDmPre | stPmPre | stDmAbs | stPmAbs => cases hi
  case dualMove => exact execDualMove_keepsMemory _ _ s hi
  case uregMove =>
    exact leads_writing <| KeepsMemory.of_conditional same fun _ ht => yields_bind fun _ =>
      (ht.after_effect s).bind fun _ hu => hu.after_putUreg s _ _ _
  case loadImm => exact leads_writing <| KeepsMemory.of_always fun _ ht => ht.after_putUreg s _ _ _
  case ldDmPost =>
    exact leads_writing <| KeepsMemory.of_conditional (unloaded _) fun _ ht => yields_bind fun _ =>
      yields_bind fun _ => (ht.after_effect s).bind fun _ hu => (hu.after_putUreg s _ _ _).map fun _ hw =>
        hw.after_updateDag1 s _ _
  case ldPmPost =>
    exact leads_writing <| KeepsMemory.of_conditional (unloaded _) fun _ ht => yields_bind fun _ =>
      yields_bind fun _ => (ht.after_effect s).bind fun _ hu => (hu.after_putUreg s _ _ _).map fun _ hw =>
        hw.after_updateDag2 s _ _
  case ldDmPre | ldPmPre =>
    exact leads_writing <| KeepsMemory.of_conditional (unloaded _) fun _ ht => yields_bind fun _ =>
      (ht.after_effect s).bind fun _ hu => hu.after_putUreg s _ _ _
  case ldDmAbs | ldPmAbs =>
    exact leads_writing <| KeepsMemory.of_always fun _ ht => yields_bind fun _ => ht.after_putUreg s _ _ _
  case compute => exact KeepsMemory.of_conditional same fun _ ht => ht.after_effect s
  case jumpAbs | jumpRel | jumpInd => exact KeepsMemory.of_branch fun _ ht => ht.after_jumpTo s _ _
  case callAbs | callRel | callInd => exact KeepsMemory.of_branch fun _ ht => ht.after_callTo s _ _
  case rts => exact KeepsMemory.of_branch fun _ ht => yields_bind fun _ => ht.after_returnTo s _
  case rtsLr => exact KeepsMemory.of_branch fun _ ht => ht.after_returnTo s _
  case rti => exact KeepsMemory.of_branch fun _ ht => yields_bind fun _ => ht.after_returnInterrupt s _
  case jumpLa target db ci k =>
    refine KeepsMemory.of_branch fun _ ht => (ht.after_abortLoop s _).map fun _ hu => ?_
    cases ci
    · exact hu.after_goTo s _ _
    · exact (hu.after_clearCurrent s).after_goTo s _ _
  case jumpCi => exact KeepsMemory.of_branch fun _ ht => (ht.after_clearCurrent s).after_jumpTo s _ _
  case doAbs | doRel => exact KeepsMemory.of_always fun _ ht => ht.after_startLoop s _ _
  case doCountImm => exact KeepsMemory.of_always fun _ ht => (ht.after_putLcntr s _).after_startLoop s _ _
  case doCountUreg =>
    exact KeepsMemory.of_always fun _ ht => yields_bind fun _ => (ht.after_putLcntr s _).after_startLoop s _ _
  case bitSet | bitClr | bitTgl => exact KeepsMemory.of_always fun _ ht => ht.after_putSreg s _ _
  case bitTst | bitXor => exact KeepsMemory.of_always fun _ ht => yields_ok ht
  case pushLoop =>
    exact KeepsMemory.of_stackInstr fun _ ht =>
      (ht.after_pushLoops.after_doStatus s _).bind fun _ hu => hu.after_doPcStack s _
  case popLoop =>
    exact KeepsMemory.of_stackInstr fun _ ht => ht.after_popLoops.bind fun _ hu =>
      (hu.after_doStatus s _).bind fun _ hw => hw.after_doPcStack s _
  case pushSts => exact KeepsMemory.of_stackInstr fun _ ht => ht.after_pushStatus.after_doPcStack s _
  case popSts =>
    exact KeepsMemory.of_stackInstr fun _ ht => (ht.after_restoreStatus s).bind fun _ hu => hu.after_doPcStack s _
  case pushPcstk | popPcstk => exact KeepsMemory.of_stackInstr fun _ ht => ht.after_doPcStack s _
  case idle16 => exact execIdle16_keepsMemory s
  case idle => exact KeepsMemory.of_always fun _ ht => ht.after_waitHere s
  case nop => exact KeepsMemory.of_always fun _ ht => yields_ok ht
  -- what is left are the computations alone
  all_goals exact alone_keepsMemory s ⟨_, rfl, rfl⟩

/-- Settles O17: memory and the lists of written words stay through every operation of every other instruction. -/
theorem onlyStoresWriteMemory : Obligations.OnlyStoresWriteMemory := by
  intro i s t hi h
  have kept : memoryPart t = memoryPart s := exec_keepsMemory s hi t h
  simp only [memoryPart, Prod.mk.injEq] at kept
  obtain ⟨hmem, hdirty, hrewidth⟩ := kept
  exact ⟨fun k => by rw [hmem], hdirty, hrewidth⟩

/-! Address generation (R399 to R401, R509). -/

section
variable {w : Nat}

/-- With length 0 an index moves freely (R399). -/
theorem postModify_linear {i m l b free : BitVec w} {freeWrap : Bool} (h : (l.toNat : Int) = 0) :
    postModify i m l b free freeWrap = (i + m, false) :=
  if_pos (BitVec.eq_of_toNat_eq (by simpa using h))

/-- In a circular buffer the new index stays in the buffer, a whole number of lengths from I + M, and it wraps exactly
where I + M lies outside (R400). -/
theorem postModify_circular {i m l b free : BitVec w} {freeWrap : Bool} (hl : (l.toNat : Int) ≠ 0)
    (hm : |m.toInt| ≤ l.toNat) (hlo : (b.toNat : Int) ≤ i.toNat) (hhi : (i.toNat : Int) < b.toNat + l.toNat)
    (htop : (b.toNat : Int) + l.toNat ≤ 2 ^ w) :
    let r := postModify i m l b free freeWrap
    (b.toNat : Int) ≤ r.1.toNat ∧ (r.1.toNat : Int) < b.toNat + l.toNat ∧
      ((r.1.toNat : Int) - (i.toNat + m.toInt)) % l.toNat = 0 ∧
      r.2 = !decide ((b.toNat : Int) ≤ i.toNat + m.toInt ∧ i.toNat + m.toInt < b.toNat + l.toNat) := by
  have long : l ≠ 0 := by
    rintro rfl
    simp at hl
  obtain ⟨hmlo, hmhi⟩ := abs_le.1 hm
  have stated : ¬ ((l.toNat : Int) < m.toInt.natAbs ∨ (i.toNat : Int) < b.toNat ∨
      (b.toNat : Int) + l.toNat ≤ i.toNat) := by omega
  have word : ∀ x : Int, (b.toNat : Int) ≤ x → x < b.toNat + l.toNat → ((BitVec.ofInt w x).toNat : Int) = x := by
    intro x hx hx'
    rw [BitVec.toNat_ofInt, Int.toNat_of_nonneg (Int.emod_nonneg _ (by positivity))]
    exact Int.emod_eq_of_lt (by omega) (by push_cast; omega)
  dsimp only
  rw [postModify, if_neg long]
  dsimp only
  rw [if_neg stated]
  split_ifs with above below
  · have value := word (i.toNat + m.toInt - l.toNat) (by omega) (by omega)
    rw [value]
    refine ⟨by omega, by omega, ?_, ?_⟩
    · rw [sub_sub_cancel_left, Int.neg_emod_self]
    · rw [decide_eq_false (by omega)]; rfl
  · have value := word (i.toNat + m.toInt + l.toNat) (by omega) (by omega)
    rw [value]
    refine ⟨by omega, by omega, ?_, ?_⟩
    · rw [add_sub_cancel_left, Int.emod_self]
    · rw [decide_eq_false (by omega)]; rfl
  · have value := word (i.toNat + m.toInt) (by omega) (by omega)
    rw [value]
    refine ⟨by omega, by omega, by simp, ?_⟩
    rw [decide_eq_true (by omega)]; rfl

/-- An address on the bus, bit-reversed or not. -/
theorem getLsbD_reversed (x : BitVec w) (p : Prop) [Decidable p] {k : Nat} (hk : k < w) :
    (if p then x.reverse else x).getLsbD k = x.getLsbD (if p then w - 1 - k else k) := by
  split_ifs
  · rw [BitVec.getLsbD_reverse, BitVec.getMsbD, decide_eq_true hk, Bool.true_and]
  · rfl

end

section
variable (s t : State) (i m : Fin 8)

theorem dag1Address_getLsbD {k : Nat} (hk : k < 32) :
    (dag1Address s i).getLsbD k =
      (dag1Reg s .i i).getLsbD (if i = 0 ∧ bitOf (effMode1 s) 1 = true then 31 - k else k) := by
  simp only [dag1Address, Bool.and_eq_true, decide_eq_true_eq]
  exact getLsbD_reversed _ _ hk

theorem dag2Address_getLsbD {k : Nat} (hk : k < 24) :
    (dag2Address s i).getLsbD k =
      (dag2Reg s .i i).getLsbD (if i = 0 ∧ bitOf (effMode1 s) 0 = true then 23 - k else k) := by
  simp only [dag2Address, Bool.and_eq_true, decide_eq_true_eq]
  exact getLsbD_reversed _ _ hk

/-- A post-modify in DAG1 writes the new index; STKY and IRPTL change where I7 wraps. -/
theorem updateDag1_eq :
    updateDag1 s t i m = { putDag1 s t .i i (dag1Modified s i m).1 with
      stky := if (dag1Modified s i m).2 = true ∧ i = 7 then t.stky ||| 0x00020000 else t.stky
      irptl := if (dag1Modified s i m).2 = true ∧ i = 7 then t.irptl ||| (0x00200000 &&& ~~~t.imaskp) else t.irptl } := by
  unfold updateDag1
  simp only [Bool.and_eq_true, decide_eq_true_eq]
  split_ifs
  · rfl
  · rfl

/-- The same in DAG2, for I15. -/
theorem updateDag2_eq :
    updateDag2 s t i m = { putDag2 s t .i i (dag2Modified s i m).1 with
      stky := if (dag2Modified s i m).2 = true ∧ i = 7 then t.stky ||| 0x00040000 else t.stky
      irptl := if (dag2Modified s i m).2 = true ∧ i = 7 then t.irptl ||| (0x00400000 &&& ~~~t.imaskp) else t.irptl } := by
  unfold updateDag2
  simp only [Bool.and_eq_true, decide_eq_true_eq]
  split_ifs
  · rfl
  · rfl

end

/-- The flags of a post-modify in DAG1: only a wrap of I7 sets any (R400, R509). -/
theorem updateDag1_flags (s t : State) (i m : Fin 8) :
    (¬((dag1Modified s i m).2 = true ∧ i = 7) →
        (updateDag1 s t i m).stky = t.stky ∧ (updateDag1 s t i m).irptl = t.irptl) ∧
      ((dag1Modified s i m).2 = true ∧ i = 7 → (updateDag1 s t i m).stky = t.stky ||| 0x00020000 ∧
        (updateDag1 s t i m).irptl = t.irptl ||| (0x00200000 &&& ~~~t.imaskp)) := by
  rw [updateDag1_eq]
  exact ⟨fun h => ⟨if_neg h, if_neg h⟩, fun h => ⟨if_pos h, if_pos h⟩⟩

/-- The same in DAG2, of I15. -/
theorem updateDag2_flags (s t : State) (i m : Fin 8) :
    (¬((dag2Modified s i m).2 = true ∧ i = 7) →
        (updateDag2 s t i m).stky = t.stky ∧ (updateDag2 s t i m).irptl = t.irptl) ∧
      ((dag2Modified s i m).2 = true ∧ i = 7 → (updateDag2 s t i m).stky = t.stky ||| 0x00040000 ∧
        (updateDag2 s t i m).irptl = t.irptl ||| (0x00400000 &&& ~~~t.imaskp)) := by
  rw [updateDag2_eq]
  exact ⟨fun h => ⟨if_neg h, if_neg h⟩, fun h => ⟨if_pos h, if_pos h⟩⟩

/-- What the statement of address generation says of either generator, for the new index `new`: `sets` holds where index
7 wraps, and `stays` elsewhere. -/
theorem postModify_outcomes {w : Nat} {x m l b free new : BitVec w} {freeWrap wraps : Bool} {i : Fin 8}
    {stays sets : Prop} (hr : postModify x m l b free freeWrap = (new, wraps))
    (flags : (¬(wraps = true ∧ i = 7) → stays) ∧ (wraps = true ∧ i = 7 → sets)) :
    (i ≠ 7 → stays) ∧ ((l.toNat : Int) = 0 → new = x + m ∧ stays) ∧
      ((l.toNat : Int) ≠ 0 → |m.toInt| ≤ l.toNat → (b.toNat : Int) ≤ x.toNat → (x.toNat : Int) < b.toNat + l.toNat →
        (b.toNat : Int) + l.toNat ≤ 2 ^ w →
        (b.toNat : Int) ≤ new.toNat ∧ (new.toNat : Int) < b.toNat + l.toNat ∧
          ((new.toNat : Int) - (x.toNat + m.toInt)) % l.toNat = 0 ∧
          (i = 7 → (b.toNat : Int) ≤ x.toNat + m.toInt → (x.toNat : Int) + m.toInt < b.toNat + l.toNat → stays) ∧
          (i = 7 → ¬((b.toNat : Int) ≤ x.toNat + m.toInt ∧ (x.toNat : Int) + m.toInt < b.toNat + l.toNat) → sets)) := by
  obtain ⟨keep, set⟩ := flags
  refine ⟨fun hi => keep fun h => hi h.2, fun hl => ?_, fun hl hm hlo hhi htop => ?_⟩
  · rw [postModify_linear hl, Prod.mk.injEq] at hr
    obtain ⟨hnew, hwraps⟩ := hr
    exact ⟨hnew.symm, keep fun h => by rw [← hwraps] at h; exact Bool.false_ne_true h.1⟩
  · have buffer := postModify_circular (free := free) (freeWrap := freeWrap) hl hm hlo hhi htop
    rw [hr] at buffer
    obtain ⟨low, high, whole, wrapped⟩ := buffer
    dsimp only at wrapped
    refine ⟨low, high, whole, fun _ h h' => keep ?_, fun hi h => set ⟨?_, hi⟩⟩
    · rw [wrapped, decide_eq_true ⟨h, h'⟩]
      exact fun hw => Bool.false_ne_true hw.1
    · rw [wrapped, decide_eq_false h]
      rfl

/-- The indices after a post-modify. -/
theorem updateDag1_index (s t : State) (i m : Fin 8) (j : Fin 16) :
    (updateDag1 s t i m).dag1.i.get j = if j = dag1Idx s i then (dag1Modified s i m).1 else t.dag1.i.get j := by
  rw [updateDag1_eq]
  exact (putDag1_get s t .i i _ .i j).trans (by simp [dagFile])

theorem updateDag2_index (s t : State) (i m : Fin 8) (j : Fin 16) :
    (updateDag2 s t i m).dag2.i.get j = if j = dag2Idx s i then (dag2Modified s i m).1 else t.dag2.i.get j := by
  rw [updateDag2_eq]
  exact (putDag2_get s t .i i _ .i j).trans (by simp [dagFile])

/-- Settles O51: the addresses bit by bit; each generator's post-modify by the range of I + M. -/
theorem addressGenerationResults : Obligations.AddressGenerationResults := by
  intro s t i m u b l old by' new
  have index1 : new = (dag1Modified s i m).1 := (updateDag1_index s t i m _).trans (if_pos rfl)
  obtain ⟨other1, linear1, circular1⟩ := postModify_outcomes (x := dag1Reg s .i i) (new := new)
    (congrArg (·, _) index1.symm) (updateDag1_flags s t i m)
  refine ⟨?_, fun k hk => dag1Address_getLsbD s i hk, fun k hk => dag2Address_getLsbD s i hk,
    fun j hj => (updateDag1_index s t i m j).trans (if_neg hj), other1, linear1, circular1, ?_⟩
  · rw [show u = _ from updateDag1_eq s t i m]
    rfl
  intro w c n was step now
  have index2 : now = (dag2Modified s i m).1 := (updateDag2_index s t i m _).trans (if_pos rfl)
  obtain ⟨other2, linear2, circular2⟩ := postModify_outcomes (x := dag2Reg s .i i) (new := now)
    (congrArg (·, _) index2.symm) (updateDag2_flags s t i m)
  refine ⟨?_, fun j hj => (updateDag2_index s t i m j).trans (if_neg hj), other2, linear2, circular2⟩
  rw [show w = _ from updateDag2_eq s t i m]
  rfl

/-! An instruction by what it does on the sequenced state. -/

/-- Wherever the sequencer goes on from `s`, `i` does what `f` does there. -/
def RunsAs (i : Instr) (s : State) (f : State → Res State) : Prop :=
  ∀ t, sequenced s = .ok t → exec i s = toOutcome (f t)

section
variable {i : Instr} {s : State} {c : Cond} {f g : State → Res State} {skip : State → State}

theorem runsAs_always (hi : exec i s = always s f) : RunsAs i s f := fun t ht => by
  rw [hi, always, ht, bind_of_ok]

theorem demand_of_mayTest (may : mayTest c s = true) (r : Refusal) :
    demand (!(c == .lce && s.counterLoaded)) r = .ok () := demand_ok.2 may

theorem runsAs_conditional (hi : exec i s = conditional c s skip f) (may : mayTest c s = true)
    (holds : condition s c = true) : RunsAs i s f := fun t ht => by
  rw [hi, conditional, demand_of_mayTest may, bind_of_ok, ht, bind_of_ok, if_pos holds]

/-- Under a false condition. -/
theorem runsAs_skip (hi : exec i s = conditional c s skip f) (may : mayTest c s = true)
    (fails : condition s c = false) : RunsAs i s fun t => .ok (skip t) := fun t ht => by
  rw [hi, conditional, demand_of_mayTest may, bind_of_ok, ht, bind_of_ok, if_neg (by rw [fails]; exact Bool.false_ne_true)]

theorem RunsAs.congr (h : RunsAs i s f) (hfg : ∀ t, f t = g t) : RunsAs i s g := fun t ht => by rw [h t ht, hfg]

theorem RunsAs.completes {f : State → State} (hs : flowReady s = true) (h : RunsAs i s fun t => .ok (f t)) :
    completes i s f := by
  obtain ⟨t, ht⟩ := sequenced_of_flowReady hs
  exact ⟨t, ht, (sequenced_frame ht).1, h t ht⟩

theorem RunsAs.transfers (hs : flowReady s = true) (h : RunsAs i s f)
    (answers : ∀ t, sequenced s = .ok t → ∃ u, f t = .ok u) : transfers i s f := by
  obtain ⟨t, ht⟩ := sequenced_of_flowReady hs
  obtain ⟨u, hu⟩ := answers t ht
  exact ⟨t, u, ht, (sequenced_frame ht).1, hu, by rw [h t ht, hu, toOutcome_ok]⟩

theorem RunsAs.stops (hs : flowReady s = true) {e : Stop} (h : RunsAs i s fun _ => .error e) :
    exec i s = toOutcome (.error e) := by
  obtain ⟨t, ht⟩ := sequenced_of_flowReady hs
  exact h t ht

end

theorem withSlot_of_slotEffect {s : State} {c : Option Compute} {e : Effect} (h : slotEffect c s = .ok e) (t : State) :
    withSlot c s t = .ok (applyEffect s t e) := by
  rw [withSlot, h, map_of_ok]

/-! Where an instruction with a destination may stand, and what it writes (R391, R440, R449). -/

/-- The test of the innermost loop or of one around it is the test of an active loop (R443). -/
theorem atCountTest_iff {s : State} :
    atCountTest s = true ↔ ∃ k : Fin 6, k.val < s.lsp.val ∧ countTest s (levelAt s k) = true := by
  have inner : (∃ l, loopTop s = some l ∧ countTest s l = true) ↔
      ∃ k : Fin 6, k.val + 1 = s.lsp.val ∧ countTest s (levelAt s k) = true := by
    constructor
    · rintro ⟨l, hl, test⟩
      have active := lsp_pos_of_loopTop hl
      have top := loopTop_of_lsp (s := s) ⟨s.lsp.val - 1, by omega⟩ (Nat.sub_add_cancel active).symm
      rw [hl, Option.some.injEq] at top
      exact ⟨⟨s.lsp.val - 1, by omega⟩, Nat.sub_add_cancel active, top ▸ test⟩
    · rintro ⟨k, hk, test⟩
      exact ⟨_, loopTop_of_lsp k hk.symm, test⟩
  have outer : (outerLoops s).any (countTest s) = true ↔
      ∃ k : Fin 6, k.val + 1 < s.lsp.val ∧ countTest s (levelAt s k) = true := by
    simp only [outerLoops, List.any_eq_true, List.mem_filterMap, List.mem_finRange, true_and,
      Option.ite_none_right_eq_some, Option.some.injEq]
    exact ⟨fun ⟨_, ⟨k, hk, rfl⟩, test⟩ => ⟨k, hk, test⟩, fun ⟨k, hk, test⟩ => ⟨_, ⟨k, hk, rfl⟩, test⟩⟩
  have either : atCountTest s = true ↔
      (∃ l, loopTop s = some l ∧ countTest s l = true) ∨ (outerLoops s).any (countTest s) = true := by
    unfold atCountTest
    cases loopTop s <;> simp
  rw [either, inner, outer, ← exists_or]
  refine exists_congr fun k => ?_
  rw [← or_and_right]
  refine and_congr_left fun _ => ?_
  omega

theorem stackRegister_eq (u : Ureg) :
    [Ureg.pcstk, .pcstkp, .laddr, .curlcntr, .lcntr].contains u = stackRegister u := by
  cases u <;> rfl

/-- The words of the claims for where an instruction with a destination may stand are the model's. -/
theorem mayStand_of_standsHere {s : State} {u : Ureg} {mem : Bool} (h : standsHere s u mem = true) :
    mayStand s u mem = .ok () := by
  simp only [standsHere, Bool.and_eq_true, Bool.not_eq_true', stackRegister_eq] at h
  obtain ⟨slot, test⟩ := h
  refine mayStand_ok.2 ⟨slot, ?_⟩
  rw [← test]
  congr 1
  rw [Bool.eq_iff_iff, atCountTest_iff]
  simp [countTest, and_assoc]

theorem writing_of_standsHere {s : State} {u : Ureg} {mem : Bool} (h : standsHere s u mem = true)
    (o : Host.Outcome State Fault Refusal) : writing u mem s o = o := by
  rw [writing, mayStand_of_standsHere h]

theorem standsHere_of_takesWrite {s : State} {u : Ureg} {v : W48} {mem : Bool} (h : takesWrite s u v mem = true) :
    standsHere s u mem = true := (Bool.and_eq_true_iff.1 h).1

/-- Where PCSTKP can be written no loop is active, so that the sequencer leaves it. -/
theorem pcstkp_of_takesWrite {s t : State} {v : W48} {mem : Bool} (hs : flowReady s = true)
    (h : takesWrite s .pcstkp v mem = true) (ht : sequenced s = .ok t) : t.pcstkp = s.pcstkp := by
  obtain ⟨-, h⟩ := Bool.and_eq_true_iff.1 h
  simp only [Bool.or_eq_true, beq_iff_eq] at h
  have outside : s.lsp.val = 0 := by
    by_contra active
    obtain ⟨-, -, most⟩ := (flowReady_iff.1 hs).1 (by omega)
    rw [h.resolve_left active] at most
    exact absurd most (by decide)
  simp only [sequenced, bind_ok, map_ok] at ht
  obtain ⟨-, -, u, hu, n, hn, rfl⟩ := ht
  rw [loopTest, loopTop_of_no_loop outside] at hu
  cases hu
  rw [advance_pcstkp, nextAddress_frame hn]

/-- A register takes the write wherever the claims say that it does. -/
theorem putUreg_answers {s t : State} {u : Ureg} {v : W48} {mem : Bool} (h : takesWrite s u v mem = true)
    (hp : u = .pcstkp → t.pcstkp = s.pcstkp) (src : Source) : ∃ w, putUreg s t u v src = .ok w := by
  obtain ⟨-, takes⟩ := Bool.and_eq_true_iff.1 h
  cases u
  case faddr | daddr | pc => cases takes
  case pcstk =>
    have free : pcStackFree s = .ok () := pcStackFree_ok.2 (Option.isNone_iff_eq_none.1 takes)
    simp only [putUreg, putPcstk, free, bind_of_ok]
    split
    · exact ⟨_, rfl⟩
    · exact ⟨_, rfl⟩
  case pcstkp =>
    simp only [putUreg, putPcstkp, hp rfl, if_true]
    split
    · exact ⟨_, rfl⟩
    · exact ⟨_, rfl⟩
  case sys r =>
    cases r
    case irptl => exact ⟨_, if_pos (beq_iff_eq.1 takes)⟩
    all_goals exact ⟨_, rfl⟩
  all_goals exact ⟨_, rfl⟩

/-- So does one beside a computation. -/
theorem putUreg_answers_sequenced {s t : State} {u : Ureg} {v : W48} {mem : Bool} (hs : flowReady s = true)
    (h : takesWrite s u v mem = true) (ht : sequenced s = .ok t) (src : Source) :
    (∃ w, putUreg s t u v src = .ok w) ∧ ∀ e, ∃ w, putUreg s (applyEffect s t e) u v src = .ok w := by
  have pointer : u = .pcstkp → t.pcstkp = s.pcstkp := by
    rintro rfl
    exact pcstkp_of_takesWrite hs h ht
  exact ⟨putUreg_answers h pointer src,
    fun e => putUreg_answers h (fun hu => (applyEffect_pcstkp s t e).trans (pointer hu)) src⟩

/-! Register moves (R391, R392, R402). -/

/-- Settles O45: each move writes what it read after the computation beside it; the register takes the write. -/
theorem registerMoveResults : Obligations.RegisterMoveResults := by
  intro s cond c dst src v e hs
  refine ⟨fun takes => ?_, fun stands may fails => ?_, fun may holds he reads takes => ?_⟩
  · have stands := standsHere_of_takesWrite takes
    have runs : RunsAs (.loadImm dst v) s _ := runsAs_always (writing_of_standsHere stands _)
    exact runs.transfers hs fun t ht => (putUreg_answers_sequenced hs takes ht _).1
  · have runs : RunsAs (.uregMove cond c dst src) s _ := runsAs_skip (writing_of_standsHere stands _) may fails
    exact runs.completes hs
  · have stands := standsHere_of_takesWrite takes
    have runs : RunsAs (.uregMove cond c dst src) s _ :=
      runsAs_conditional (writing_of_standsHere stands _) may holds
    have simpler := runs.congr (g := fun t => putUreg s (applyEffect s t e) dst (onDmBus (readUreg s src)) .register)
      fun t => by simp only [takeUreg_of_givesRead reads, withSlot_of_slotEffect he, bind_of_ok]
    exact simpler.transfers hs fun t ht => (putUreg_answers_sequenced hs takes ht _).2 e

/-! Loads (R104, R393 to R397). -/

/-- A byte that holds nothing leaves the number unread. -/
theorem Memory.readBytes_of_none {m : Memory} {a n j : Nat} (hj : j < n) (h : Memory.read m (a + j) = none) :
    Memory.readBytes m a n = none := by
  induction n generalizing a j with
  | zero => omega
  | succ n ih =>
    cases j with
    | zero => simp only [Memory.readBytes, show Memory.read m a = none from h]
    | succ j =>
      have rest : Memory.readBytes m (a + 1) n = none := ih (j := j) (by omega) (by rw [← h]; congr 1; omega)
      unfold Memory.readBytes
      rw [rest]
      cases Memory.read m a <;> rfl

/-- A column without bytes reads as nothing, at every width. -/
theorem readColumn_of_unwritten {m : Memory} {a : Nat} (h : ∀ j < 6, m.read (wordKey a + j) = none) (w : WordWidth)
    (full : Bool) : readColumn m a w full = none := by
  by_cases hw : w = .w32
  · subst hw
    rw [readColumn_w32, Memory.readBytes_of_none (by decide : 0 < 4) (h 2 (by decide))]
    rfl
  · cases full with
    | false =>
      rw [readColumn_data hw, Memory.readBytes_of_none (by decide : 0 < 5) (h 1 (by decide))]
      rfl
    | true =>
      rw [readColumn_full hw, Memory.readBytes_of_none (by decide : 0 < 6) (h 0 (by decide))]
      rfl

theorem readHeld_of_unwritten {s : State} {a : Nat} (h : ∀ j < 6, s.mem.read (wordKey a + j) = none) (w : WordWidth)
    (full : Bool) : readHeld s a w full = .ok none := by
  simp only [readHeld, readColumn_of_unwritten h, Option.isSome_none, Bool.false_eq_true, if_false, ite_self]

theorem readWord_of_unmapped {s : State} {a : Nat} (h : regionOf s.cfg a = .unmapped) (sp : Space) (full : Bool) :
    readWord s sp full a = faulted .unmapped := by
  simp only [readWord, h]

theorem readWord_of_unwritten {s : State} {a : Nat} {b : Fin 2} {w : WordWidth}
    (hr : regionOf s.cfg a = .internal b w) (h : ∀ j < 6, s.mem.read (wordKey a + j) = none) (sp : Space)
    (full : Bool) : readWord s sp full a = faulted .unwrittenMemory := by
  simp only [readWord, hr, readHeld_of_unwritten h, bind_of_ok]

/-- A load at `a`: with the word `v` read there before, `i` does what `f v` does. -/
def Loads (i : Instr) (s : State) (sp : Space) (full : Bool) (a : Nat) (f : W48 → State → Res State) : Prop :=
  RunsAs i s fun t => (readWord s sp full a).bind fun v => f v t

section
variable {i : Instr} {s : State} {sp : Space} {full : Bool} {a : Nat} {v : W48} {f : W48 → State → Res State}

theorem Loads.transfers (h : Loads i s sp full a f) (hs : flowReady s = true) (hv : readWord s sp full a = .ok v)
    (answers : ∀ t, sequenced s = .ok t → ∃ u, f v t = .ok u) : transfers i s (f v) :=
  (RunsAs.congr h fun t => by rw [hv, bind_of_ok]).transfers hs answers

/-- What a read stops with stops the load. -/
theorem Loads.stops (h : Loads i s sp full a f) (hs : flowReady s = true) {e : Stop}
    (he : readWord s sp full a = .error e) : exec i s = toOutcome (.error e) :=
  RunsAs.stops hs (RunsAs.congr h fun t => by rw [he, bind_of_error])

/-- A load stops at an unmapped address and at an internal word that holds nothing (R104). -/
theorem Loads.faults (h : Loads i s sp full a f) (hs : flowReady s = true) :
    (regionOf s.cfg a = .unmapped → exec i s = .fault .unmapped) ∧
      ∀ b w, regionOf s.cfg a = .internal b w → (∀ j < 6, s.mem.read (wordKey a + j) = none) →
        exec i s = .fault .unwrittenMemory :=
  ⟨fun hr => h.stops hs (readWord_of_unmapped hr sp full),
    fun _ _ hr hn => h.stops hs (readWord_of_unwritten hr hn sp full)⟩

end

/-! The six forms of a load, where `dst` takes the word and the condition holds. -/

section
variable {s : State} {cond : Cond} {c : Option Compute} {dst : Ureg} {e : Effect} (m i : Fin 8)

theorem loads_ldDmAbs (stands : standsHere s dst true = true) (addr : W32) :
    Loads (.ldDmAbs dst addr) s .dm false addr.toNat fun v t => putUreg s t dst v .memory :=
  runsAs_always (writing_of_standsHere stands _)

theorem loads_ldPmAbs (stands : standsHere s dst true = true) (addr : A24) :
    Loads (.ldPmAbs dst addr) s .pm (wide dst) addr.toNat fun v t => putUreg s t dst v .programMemory :=
  runsAs_always (writing_of_standsHere stands _)

theorem loads_ldDmPre (stands : standsHere s dst true = true) (may : mayTest cond s = true)
    (holds : condition s cond = true) (he : slotEffect c s = .ok e) :
    Loads (.ldDmPre cond c dst m i) s .dm false (dag1Pre s m i).toNat fun v t =>
      putUreg s (applyEffect s t e) dst v .memory := by
  have runs : RunsAs (.ldDmPre cond c dst m i) s _ :=
    runsAs_conditional (writing_of_standsHere stands _) may holds
  exact runs.congr fun t => by simp only [withSlot_of_slotEffect he, bind_of_ok]

theorem loads_ldPmPre (stands : standsHere s dst true = true) (may : mayTest cond s = true)
    (holds : condition s cond = true) (he : slotEffect c s = .ok e) :
    Loads (.ldPmPre cond c dst m i) s .pm (wide dst) (dag2Pre s m i).toNat fun v t =>
      putUreg s (applyEffect s t e) dst v .programMemory := by
  have runs : RunsAs (.ldPmPre cond c dst m i) s _ :=
    runsAs_conditional (writing_of_standsHere stands _) may holds
  exact runs.congr fun t => by simp only [withSlot_of_slotEffect he, bind_of_ok]; rfl

theorem loads_ldDmPost (stands : standsHere s dst true = true) (may : mayTest cond s = true)
    (holds : condition s cond = true) (he : slotEffect c s = .ok e) (apart : dst.isIndex1 i = false) :
    Loads (.ldDmPost cond c dst i m) s .dm false (dag1Address s i).toNat fun v t =>
      (putUreg s (applyEffect s t e) dst v .memory).map fun t => updateDag1 s t i m := by
  have runs : RunsAs (.ldDmPost cond c dst i m) s _ :=
    runsAs_conditional (writing_of_standsHere stands _) may holds
  exact runs.congr fun t => by
    simp only [indexClash, apart, Bool.not_false, demand_true, withSlot_of_slotEffect he, bind_of_ok]

theorem loads_ldPmPost (stands : standsHere s dst true = true) (may : mayTest cond s = true)
    (holds : condition s cond = true) (he : slotEffect c s = .ok e) (apart : dst.isIndex2 i = false) :
    Loads (.ldPmPost cond c dst i m) s .pm (wide dst) (dag2Address s i).toNat fun v t =>
      (putUreg s (applyEffect s t e) dst v .programMemory).map fun t => updateDag2 s t i m := by
  have runs : RunsAs (.ldPmPost cond c dst i m) s _ :=
    runsAs_conditional (writing_of_standsHere stands _) may holds
  exact runs.congr fun t => by
    simp only [indexClash, apart, Bool.not_false, demand_true, withSlot_of_slotEffect he, bind_of_ok]; rfl

end

/-- CURLCNTR is not loaded at the test of an active counter-based loop (R449, R597). -/
theorem writing_of_atCountTest {s : State} (slot : inSlot s = false) (test : atCountTest s = true)
    (o : Host.Outcome State Fault Refusal) : writing .curlcntr true s o = .refused .counterFromMemoryAtTest := by
  have bars : mayStand s .curlcntr true = .error (.refuse .counterFromMemoryAtTest) := by
    simp [mayStand, slot, test]
  rw [writing, bars]
  rfl

/-- Settles O46: each form reads its word, and the destination takes it; a false condition leaves the mark of a load not
made; the test of an active loop bars a load of CURLCNTR. -/
theorem loadResults : Obligations.LoadResults := by
  constructor
  · intro s cond c dst i m a32 a24 e v hs he takes dm pm stops
    have stands := standsHere_of_takesWrite takes
    have lands (src : Source) (t : State) (ht : sequenced s = .ok t) := putUreg_answers_sequenced hs takes ht src
    have modified (src : Source) (post : State → State) (t : State) (ht : sequenced s = .ok t) :
        ∃ u, (putUreg s (applyEffect s t e) dst v src).map post = .ok u := by
      obtain ⟨w, hw⟩ := (lands src t ht).2 e
      exact ⟨_, congrArg (Except.map post) hw⟩
    have dmAbs := loads_ldDmAbs stands a32
    have pmAbs := loads_ldPmAbs stands a24
    refine ⟨fun hv => dmAbs.transfers hs hv fun t ht => (lands _ t ht).1,
      fun hv => pmAbs.transfers hs hv fun t ht => (lands _ t ht).1, dmAbs.faults hs, pmAbs.faults hs,
      fun may holds => ?_, fun may fails => ?_⟩
    · have dmPre := loads_ldDmPre m i stands may holds he
      have pmPre := loads_ldPmPre m i stands may holds he
      refine ⟨fun apart => ?_, fun apart => ?_, dmPre.faults hs, pmPre.faults hs,
        fun hv => dmPre.transfers hs hv fun t ht => (lands _ t ht).2 e,
        fun hv => pmPre.transfers hs hv fun t ht => (lands _ t ht).2 e⟩
      · have dmPost := loads_ldDmPost m i stands may holds he apart
        exact ⟨dmPost.faults hs, fun hv => dmPost.transfers hs hv (modified _ _)⟩
      · have pmPost := loads_ldPmPost m i stands may holds he apart
        exact ⟨pmPost.faults hs, fun hv => pmPost.transfers hs hv (modified _ _)⟩
    · have skipped {k : Instr} {f : State → Res State}
          (hk : exec k s = writing dst true s (conditional cond s (notLoaded dst) f)) :
          completes k s (notLoaded dst) :=
        (runsAs_skip (hk.trans (writing_of_standsHere stands _)) may fails).completes hs
      exact ⟨skipped rfl, skipped rfl, skipped rfl, skipped rfl⟩
  · intro s n cond c i m a32 a24 hn kind test slot
    have active : atCountTest s = true :=
      atCountTest_iff.2 ⟨n, hn, by simp only [countTest, kind, test, beq_self_eq_true, Bool.and_self]⟩
    have barred := writing_of_atCountTest slot active
    exact ⟨barred _, barred _, barred _, barred _, barred _, barred _⟩

/-! Stores (R105, R393 to R396). -/

theorem writeWord_of_mapped {s : State} {a : Nat} (h : regionOf s.cfg a ≠ .unmapped) (sp : Space) (full : Bool)
    (v : W48) : writeWord s sp full a v = .ok (storeWord s sp full a v) := if_neg h

theorem writeWord_of_unmapped {s : State} {a : Nat} (h : regionOf s.cfg a = .unmapped) (sp : Space) (full : Bool)
    (v : W48) : writeWord s sp full a v = faulted .unmapped := if_pos h

/-- What the statement of stores says of one form, `f` being what it does on the sequenced state: at a mapped address it
goes on and changes the bytes of that word only, at an unmapped one it faults. -/
structure Stores (i : Instr) (s : State) (sp : Space) (a : Nat) (f : State → Res State) : Prop where
  stored : regionOf s.cfg a ≠ .unmapped → transfers i s f ∧ ∀ u, exec i s = .next u → sameMemoryBut s u sp a
  faults : regionOf s.cfg a = .unmapped → exec i s = .fault .unmapped

/-- An instruction that stores `v` after the computation `pre` and before the post-modify `post`. -/
theorem stores_of_runsAs {i : Instr} {s : State} {sp : Space} {full : Bool} {a : Nat} {v : W48}
    {f : State → Res State} {pre post : State → State} (hs : flowReady s = true) (h : RunsAs i s f)
    (hf : ∀ t, f t = (writeWord (pre t) sp full a v).map post)
    (hpre : ∀ t, (pre t).cfg = t.cfg ∧ (pre t).mem = t.mem) (hpost : ∀ t, (post t).mem = t.mem) :
    Stores i s sp a f := by
  have kept (t : State) (ht : sequenced s = .ok t) : (pre t).cfg = s.cfg ∧ (pre t).mem = s.mem := by
    rw [(hpre t).1, (hpre t).2, (sequenced_frame ht).1]
    exact ⟨rfl, rfl⟩
  refine ⟨fun mapped => ?_, fun unmapped => ?_⟩
  · have answers (t : State) (ht : sequenced s = .ok t) : f t = .ok (post (storeWord (pre t) sp full a v)) := by
      rw [hf, writeWord_of_mapped (by rwa [(kept t ht).1]), map_of_ok]
    refine ⟨h.transfers hs fun t ht => ⟨_, answers t ht⟩, fun u hu k hk => ?_⟩
    obtain ⟨t, ht⟩ := sequenced_of_flowReady hs
    rw [h t ht, answers t ht, toOutcome_ok, Host.Outcome.next.injEq] at hu
    obtain ⟨hcfg, hmem⟩ := kept t ht
    rw [← hu, hpost, ← hmem]
    exact storeWord_sameMemoryBut (pre t) sp full a v k (by rwa [hcfg])
  · obtain ⟨t, ht⟩ := sequenced_of_flowReady hs
    rw [h t ht, hf, writeWord_of_unmapped (by rwa [(kept t ht).1])]
    rfl

/-- Settles O47: each form stores the register as it was at the start, after the computation and before the
post-modify. -/
theorem storeResults : Obligations.StoreResults := by
  intro s cond c src i m a32 a24 e hs he reads v mapped stored
  have taken : takeUreg s src = .ok v := takeUreg_of_givesRead reads
  have computed : ∀ t : State, (applyEffect s t e).cfg = t.cfg ∧ (applyEffect s t e).mem = t.mem := fun t =>
    ⟨applyEffect_cfg s t e, applyEffect_mem s t e⟩
  have modified1 : ∀ t : State, (updateDag1 s t i m).mem = t.mem := fun t => by rw [updateDag1_frame]
  have modified2 : ∀ t : State, (updateDag2 s t i m).mem = t.mem := fun t => by rw [updateDag2_frame]
  have dmAbs : Stores (.stDmAbs a32 src) s .dm a32.toNat fun t => writeWord t .dm false a32.toNat v :=
    stores_of_runsAs hs (RunsAs.congr (runsAs_always rfl) fun t => by rw [taken, bind_of_ok])
      (fun t => (congrFun Except.map_id _).symm) (pre := id) (fun _ => ⟨rfl, rfl⟩) fun _ => rfl
  have pmAbs : Stores (.stPmAbs a24 src) s .pm a24.toNat fun t => writeWord t .pm (wide src) a24.toNat v :=
    stores_of_runsAs hs (RunsAs.congr (runsAs_always rfl) fun t => by rw [taken, bind_of_ok])
      (fun t => (congrFun Except.map_id _).symm) (pre := id) (fun _ => ⟨rfl, rfl⟩) fun _ => rfl
  have whole (may : mayTest cond s = true) (holds : condition s cond = true) :
      Stores (.stDmPost cond c i m src) s .dm (dag1Address s i).toNat (fun t =>
          (writeWord (applyEffect s t e) .dm false (dag1Address s i).toNat v).map fun t => updateDag1 s t i m) ∧
        Stores (.stPmPost cond c i m src) s .pm (dag2Address s i).toNat (fun t =>
          (writeWord (applyEffect s t e) .pm (wide src) (dag2Address s i).toNat v).map fun t => updateDag2 s t i m) ∧
        Stores (.stDmPre cond c m i src) s .dm (dag1Pre s m i).toNat (fun t =>
          writeWord (applyEffect s t e) .dm false (dag1Pre s m i).toNat v) ∧
        Stores (.stPmPre cond c m i src) s .pm (dag2Pre s m i).toNat (fun t =>
          writeWord (applyEffect s t e) .pm (wide src) (dag2Pre s m i).toNat v) := by
    have runs {k : Instr} {f : W48 → State → Res State} {g : State → Res State}
        (hk : exec k s = conditional cond s id fun t =>
          (takeUreg s src).bind fun v => (withSlot c s t).bind (f v))
        (hg : ∀ t, f v (applyEffect s t e) = g t) : RunsAs k s g :=
      (runsAs_conditional hk may holds).congr fun t => by
        rw [taken, bind_of_ok, withSlot_of_slotEffect he, bind_of_ok, hg]
    exact ⟨stores_of_runsAs hs (runs rfl fun _ => rfl) (fun _ => rfl) computed modified1,
      stores_of_runsAs hs (runs rfl fun _ => rfl) (fun _ => rfl) computed modified2,
      stores_of_runsAs hs (runs rfl fun _ => rfl) (fun _ => (congrFun Except.map_id _).symm) computed fun _ => rfl,
      stores_of_runsAs hs (runs rfl fun _ => rfl) (fun _ => (congrFun Except.map_id _).symm) computed fun _ => rfl⟩
  refine ⟨dmAbs.stored, pmAbs.stored, fun may holds => ?_, ⟨dmAbs.faults, pmAbs.faults, fun may holds => ?_⟩,
    fun may fails => ?_⟩
  · obtain ⟨dmPost, pmPost, dmPre, pmPre⟩ := whole may holds
    exact ⟨dmPost.stored, pmPost.stored, dmPre.stored, pmPre.stored⟩
  · obtain ⟨dmPost, pmPost, dmPre, pmPre⟩ := whole may holds
    exact ⟨dmPost.faults, pmPost.faults, dmPre.faults, pmPre.faults⟩
  · have skipped {k : Instr} {f : State → Res State} (hk : exec k s = conditional cond s id f) :
        completes k s id := (runsAs_skip hk may fails).completes hs
    exact ⟨skipped rfl, skipped rfl, skipped rfl, skipped rfl⟩

/-! The two-move form (R25, R112, R397). -/

/-- `t` with another memory and lists of written words. -/
def withMemory (t : State) (p : Memory × List Nat × List Nat) : State :=
  { t with mem := p.1, dirty := p.2.1, rewidth := p.2.2 }

theorem withMemory_memoryPart (t : State) : withMemory t (memoryPart t) = t := rfl

/-- The state after a side's store to a mapped address. -/
def sideStored (s t : State) (sp : Space) (side : DualSide) (a : Nat) : State :=
  if side.store = true then storeWord t sp false a (bus40 (reg s side.reg)) else t

section
variable {s t t' : State} {sp : Space} {side : DualSide} {a : Nat} {v : W48}

theorem sideStore_of_mapped (h : side.store = true → regionOf t.cfg a ≠ .unmapped) :
    sideStore s t sp side a = .ok (sideStored s t sp side a) := by
  unfold sideStore sideStored
  split
  · next store => exact writeWord_of_mapped (h store) _ _ _
  · rfl

theorem sideStored_withMemory (s t : State) (sp : Space) (side : DualSide) (a : Nat)
    (p : Memory × List Nat × List Nat) : withMemory (sideStored s t sp side a) p = withMemory t p := by
  unfold sideStored
  split <;> rfl

theorem sideStored_cfg (s t : State) (sp : Space) (side : DualSide) (a : Nat) :
    (sideStored s t sp side a).cfg = t.cfg := by
  unfold sideStored
  split <;> rfl

/-- What a store makes of memory depends on memory and the map only. -/
theorem storeWord_memoryPart (full : Bool) (hc : t.cfg = t'.cfg) (hm : memoryPart t = memoryPart t') :
    memoryPart (storeWord t sp full a v) = memoryPart (storeWord t' sp full a v) := by
  simp only [memoryPart, Prod.mk.injEq] at hm
  obtain ⟨hmem, hdirty, hrewidth⟩ := hm
  simp only [memoryPart, storeWord_mem, storeWord_dirty, storeWord_rewidth, writtenMem, writtenWidths, hc, hmem,
    hdirty, hrewidth]

theorem sideStored_memoryPart (hc : t.cfg = t'.cfg) (hm : memoryPart t = memoryPart t') :
    memoryPart (sideStored s t sp side a) = memoryPart (sideStored s t' sp side a) := by
  unfold sideStored
  split
  · exact storeWord_memoryPart false hc hm
  · exact hm

theorem sideStored_read {k : Nat}
    (h : side.store = true →
      k < (storedBytes t.cfg sp a).1 ∨ (storedBytes t.cfg sp a).1 + (storedBytes t.cfg sp a).2 ≤ k) :
    (sideStored s t sp side a).mem.read k = t.mem.read k := by
  unfold sideStored
  split
  · next store => exact storeWord_sameMemoryBut t sp false a _ k (h store)
  · rfl

/-- A side's load answers, and what it brings reaches the register only where the side loads. -/
theorem sideLoad_answers (h : side.store = false → readWord s sp false a = .ok v) :
    ∃ w, sideLoad s sp side a = .ok w ∧ ∀ t, sideWrite s t side w = sideWrite s t side v := by
  cases hs : side.store with
  | true => exact ⟨0, by simp only [sideLoad, hs, if_true], fun t => by simp only [sideWrite, hs, if_true]⟩
  | false => exact ⟨v, by simp only [sideLoad, hs, Bool.false_eq_true, if_false, h hs], fun _ => rfl⟩

theorem sideWrite_withMemory (s t : State) (side : DualSide) (v : W48) (p : Memory × List Nat × List Nat) :
    sideWrite s (withMemory t p) side v = withMemory (sideWrite s t side v) p := by
  unfold sideWrite
  split <;> rfl

theorem sideWrite_frame (s t : State) (side : DualSide) (v : W48) :
    sideWrite s t side v = { t with rf := (sideWrite s t side v).rf } := by
  unfold sideWrite
  split <;> rfl

theorem sideWrite_get (s t : State) (side : DualSide) (v : W48) (k : Fin 32) :
    (sideWrite s t side v).rf.get k =
      if side.store = false ∧ regIdx s side.reg = k then low40 v else t.rf.get k := by
  unfold sideWrite
  cases side.store with
  | true => simp
  | false => simpa using putReg_get s t side.reg (low40 v) k

end

/-- The post-modifies neither read nor change the data registers and memory. -/
theorem updateDags_with (s t : State) (i m j n : Fin 8) (rf : Vector W40 32) (p : Memory × List Nat × List Nat) :
    updateDag2 s (updateDag1 s (withMemory { t with rf := rf } p) i m) j n =
      withMemory { updateDag2 s (updateDag1 s t i m) j n with rf := rf } p := by
  simp only [updateDag1_eq, updateDag2_eq]
  rfl

/-- The state a two-move form leaves, `t` being the state after the computation: the stores, the DM one first, then the
loads, the DM one last, then both post-modifies. -/
def dualMoved (s t : State) (dm pm : DualSide) (dv pv : W48) : State :=
  let stored := sideStored s (sideStored s t .dm dm (dag1Address s dm.i).toNat) .pm pm (dag2Address s pm.i).toNat
  updateDag2 s (updateDag1 s (sideWrite s (sideWrite s stored pm pv) dm dv) dm.i dm.m) pm.i pm.m

section
variable {s t : State} {cond : Cond} {c : Option Compute} {dm pm : DualSide} {e : Effect} {dv pv : W48}

/-- Two accesses to one word are refused (R112). -/
theorem dualMove_of_oneWord (hs : flowReady s = true) (may : mayTest cond s = true) (holds : condition s cond = true)
    (one : oneWord s.cfg (dag1Address s dm.i).toNat (dag2Address s pm.i).toNat (dm.store && pm.store) = true) :
    exec (.dualMove cond c dm pm) s = .refused .sameWord := by
  have runs : RunsAs (.dualMove cond c dm pm) s _ := runsAs_conditional rfl may holds
  exact RunsAs.stops hs (runs.congr fun t => by rw [one, Bool.not_true, demand_false, bind_of_error])

theorem dualMove_next (ht : sequenced s = .ok t) (may : mayTest cond s = true) (holds : condition s cond = true)
    (he : slotEffect c s = .ok e)
    (apart : oneWord s.cfg (dag1Address s dm.i).toNat (dag2Address s pm.i).toNat (dm.store && pm.store) = false)
    (hdv : dm.store = false → readWord s .dm false (dag1Address s dm.i).toNat = .ok dv)
    (hdm : dm.store = true → regionOf s.cfg (dag1Address s dm.i).toNat ≠ .unmapped)
    (hpv : pm.store = false → readWord s .pm false (dag2Address s pm.i).toNat = .ok pv)
    (hpm : pm.store = true → regionOf s.cfg (dag2Address s pm.i).toNat ≠ .unmapped) :
    exec (.dualMove cond c dm pm) s = .next (dualMoved s (applyEffect s t e) dm pm dv pv) := by
  have runs : RunsAs (.dualMove cond c dm pm) s _ := runsAs_conditional rfl may holds
  obtain ⟨dw, hdw, dmWrites⟩ := sideLoad_answers hdv
  obtain ⟨pw, hpw, pmWrites⟩ := sideLoad_answers hpv
  have map : (applyEffect s t e).cfg = s.cfg := by
    rw [applyEffect_cfg, (sequenced_frame ht).1]
    rfl
  have map' : (sideStored s (applyEffect s t e) .dm dm (dag1Address s dm.i).toNat).cfg = s.cfg := by
    rw [sideStored_cfg, map]
  rw [runs t ht, apart, Bool.not_false, demand_true, bind_of_ok, hdw, bind_of_ok, hpw, bind_of_ok,
    withSlot_of_slotEffect he, bind_of_ok, sideStore_of_mapped (by rwa [map]), bind_of_ok,
    sideStore_of_mapped (by rwa [map']), map_of_ok, toOutcome_ok, dualMoved, dmWrites, pmWrites]

end

/-- Beside what the computation does, the two-move form changes memory, data registers and the two generators, each as if
the others were not there. -/
theorem dualMoved_eq (s t : State) (dm pm : DualSide) (dv pv : W48) :
    dualMoved s t dm pm dv pv =
      withMemory { updateDag2 s (updateDag1 s t dm.i dm.m) pm.i pm.m with
          rf := (sideWrite s (sideWrite s t pm pv) dm dv).rf }
        (memoryPart (sideStored s (sideStored s t .dm dm (dag1Address s dm.i).toNat) .pm pm
          (dag2Address s pm.i).toNat)) := by
  unfold dualMoved
  generalize hw : sideStored s (sideStored s t .dm dm (dag1Address s dm.i).toNat) .pm pm (dag2Address s pm.i).toNat = w
  have stored : w = withMemory t (memoryPart w) := by
    rw [← sideStored_withMemory s t .dm dm (dag1Address s dm.i).toNat,
      ← sideStored_withMemory s _ .pm pm (dag2Address s pm.i).toNat, hw, withMemory_memoryPart]
  have written : sideWrite s (sideWrite s t pm pv) dm dv =
      { t with rf := (sideWrite s (sideWrite s t pm pv) dm dv).rf } :=
    (sideWrite_frame s _ dm dv).trans (by rw [sideWrite_frame s t pm pv])
  calc updateDag2 s (updateDag1 s (sideWrite s (sideWrite s w pm pv) dm dv) dm.i dm.m) pm.i pm.m
    _ = updateDag2 s (updateDag1 s (withMemory (sideWrite s (sideWrite s t pm pv) dm dv) (memoryPart w)) dm.i dm.m)
          pm.i pm.m := by
        rw [← sideWrite_withMemory, ← sideWrite_withMemory, ← stored]
    _ = _ := by
        rw [written]
        exact updateDags_with s t dm.i dm.m pm.i pm.m _ _

/-- Settles O48: the reads answer before any write; what the stores leave of memory, and what the loads leave of the data
registers, is then read off side by side. -/
theorem dualMoveResults : Obligations.DualMoveResults := by
  intro s cond c dm pm e dv pv hs may he da pa hdv hdm hpv hpm
  refine ⟨fun fails => (runsAs_skip rfl may fails).completes hs, fun holds one => dualMove_of_oneWord hs may holds one,
    fun holds apart => ?_⟩
  obtain ⟨t, ht⟩ := sequenced_of_flowReady hs
  have stores : memoryPart (sideStored s (sideStored s (applyEffect s t e) .dm dm da) .pm pm pa) =
      memoryPart (sideStored s (sideStored s s .dm dm da) .pm pm pa) := by
    have sameMap : (applyEffect s t e).cfg = s.cfg := by
      rw [applyEffect_cfg, (sequenced_frame ht).1]
      rfl
    have before : memoryPart (applyEffect s t e) = memoryPart s :=
      (KeepsMemory.of_sequenced ht).after_applyEffect s e
    refine sideStored_memoryPart ?_ (sideStored_memoryPart sameMap before)
    rw [sideStored_cfg, sideStored_cfg, sameMap]
  have whole := dualMoved_eq s (applyEffect s t e) dm pm dv pv
  rw [stores] at whole
  have runs := dualMove_next ht may holds he apart hdv hdm hpv hpm
  generalize dualMoved s (applyEffect s t e) dm pm dv pv = u at whole runs
  have registers (k : Fin 32) : u.rf.get k =
      if dm.store = false ∧ regIdx s dm.reg = k then low40 dv
      else if pm.store = false ∧ regIdx s pm.reg = k then low40 pv else (applyEffect s t e).rf.get k := by
    rw [← sideWrite_get, ← sideWrite_get, whole]
    rfl
  refine ⟨t, u, ht, (sequenced_frame ht).1, runs, ?_, fun k outDm outPm => ?_, fun loads => ?_, fun loads wins => ?_,
    fun k notDm notPm => ?_⟩
  · rw [whole]
    rfl
  · have second : (sideStored s (sideStored s s .dm dm da) .pm pm pa).mem.read k =
        (sideStored s s .dm dm da).mem.read k :=
      sideStored_read fun store => by rw [sideStored_cfg]; exact outPm store
    rw [whole]
    exact second.trans (sideStored_read outDm)
  · rw [registers, if_pos ⟨loads, rfl⟩]
  · have other : ¬(dm.store = false ∧ regIdx s dm.reg = regIdx s pm.reg) := by
      rintro ⟨load, same⟩
      rcases wins with store | apart
      · rw [load] at store
        cases store
      · exact apart (regIdx_injective same)
    rw [registers, if_neg other, if_pos ⟨loads, rfl⟩]
  · rw [registers, if_neg fun h => notDm h.1 h.2, if_neg fun h => notPm h.1 h.2]

end Sys2Proof.Machine
end

-- Proofs of the statements of 46_program_flow.md.
section
/-! SUPPORT. Program flow: the sequencer at the ends of loops, branches and returns by what they do on the sequenced
state, delay slots, conditions, bit instructions, and waiting. -/

namespace Sys2Proof.Machine

/-! An instruction by what it does on the sequenced state. -/

section
variable {i : Instr} {s : State} {f g : State → Res State} {r : Refusal}

theorem RunsAs.congr_of_sequenced (h : RunsAs i s f) (hfg : ∀ t, sequenced s = .ok t → f t = g t) : RunsAs i s g :=
  fun t ht => by rw [h t ht, hfg t ht]

theorem RunsAs.refuses (hs : flowReady s = true) (h : RunsAs i s f)
    (hf : ∀ t, sequenced s = .ok t → f t = .error (.refuse r)) : exec i s = .refused r :=
  (h.congr_of_sequenced hf).stops hs

end

/-! The sequencer at the end of a loop (R445 to R448, R451). -/

/-- From `s` the loop test gives `u` and the next address is `n`; together they make the sequenced state `t`. -/
structure SequencedBy (s u : State) (n : State × A24 × Bool) (t : State) : Prop where
  test : loopTest s = .ok u
  next : nextAddress u = .ok n
  lsp : t.lsp = u.lsp
  pcstkp : t.pcstkp = u.pcstkp
  lcs : t.lcs = u.lcs
  tail : t.tail = n.1.tail
  pc : s.dbr = none → t.pc = n.2.1

theorem sequencedBy_of_sequenced {s t : State} (h : sequenced s = .ok t) : ∃ u n, SequencedBy s u n t := by
  simp only [sequenced, bind_ok, map_ok] at h
  obtain ⟨-, -, u, hu, n, hn, rfl⟩ := h
  have frame := nextAddress_frame hn
  refine ⟨u, n, hu, hn, ?_, ?_, ?_, rfl, fun hd => ?_⟩
  · rw [advance_lsp, frame]
  · rw [advance_pcstkp, frame]
  · rw [advance_lcs, frame]
  · simp only [advance, hd]

/-- The loop stacks and the PC stack of `s` are popped once in `t`. -/
def loopPopped (s t : State) : Prop := t.lsp.val + 1 = s.lsp.val ∧ t.pcstkp = s.pcstkp - 1

theorem popLoopEnd_popped {s t : State} (held : topsHeld s) (h : popLoopEnd s = .ok t) : loopPopped s t := by
  obtain ⟨-, lsp, pointer⟩ := popLoopEnd_ok h
  obtain ⟨-, -, most⟩ := held (by omega)
  exact ⟨lsp, pointer fun full => by rw [full] at most; exact absurd most (by decide)⟩

theorem endLongLoop_popped {s t : State} {e : A24} (held : topsHeld s) (h : endLongLoop s e = .ok t) :
    loopPopped s t ∧ t.lcs = s.lcs := by
  obtain ⟨w, hw, rfl⟩ := map_ok.1 h
  have popped : loopPopped s w := popLoopEnd_popped held hw
  refine ⟨popped, ?_⟩
  rw [(popLoopEnd_ok hw).1]

theorem endShortLoop_lcs {s t : State} {e : A24} {more : Nat} {counter : Bool}
    (h : endShortLoop s e more counter = .ok t) : t.lcs = s.lcs := by
  obtain ⟨b, -, h⟩ := bind_ok.1 h
  obtain ⟨w, hw, rfl⟩ := map_ok.1 h
  rw [(popLoopEnd_ok hw).1]

/-- A short loop ends with its top, the top of the PC stack, kept for the loop-backs still to come. -/
theorem endShortLoop_popped {s t : State} {e b : A24} {more : Nat} {counter : Bool} (held : topsHeld s)
    (top : pcTop s = some b) (h : endShortLoop s e more counter = .ok t) :
    loopPopped s t ∧ t.pc = s.pc ∧ t.tail = some ⟨e, b, more, counter⟩ := by
  have address : returnAddress s s = .ok b := returnAddress_ok.2 (.inl top)
  rw [endShortLoop, address, bind_of_ok] at h
  obtain ⟨w, hw, rfl⟩ := map_ok.1 h
  have popped : loopPopped s w := popLoopEnd_popped held hw
  refine ⟨popped, ?_, rfl⟩
  rw [(popLoopEnd_ok hw).1]

theorem pcTop_of_topsHeld {s : State} (held : topsHeld s) (active : 0 < s.lsp.val) : ∃ b, pcTop s = some b := by
  obtain ⟨-, least, most⟩ := held active
  exact ⟨_, dif_pos ⟨by omega, most⟩⟩

/-- After a short loop's stacks are popped it makes two passes more, or one; its loop-back begins the first. -/
theorem passes_left (p : Prop) [Decidable p] :
    0 < (if p then 2 else 1) ∧ (if p then 2 else 1) - 1 = if p then 1 else 0 := by
  split <;> decide

/-! The next address (R446). -/

section
variable {s : State} {l : Level} {x : Tail}

/-- The counts do not say where a loop ends. -/
theorem loopTop_of_counts (hl : loopTop s = some l) (counts : Vector W32 7) :
    ∃ l', loopTop { s with lcs := counts } = some l' ∧ l'.e = l.e := by
  have active := lsp_pos_of_loopTop hl
  rw [loopTop, dif_pos active, Option.some.injEq] at hl
  subst hl
  exact ⟨_, dif_pos active, rfl⟩

theorem loopNext_of_end {b : A24} (held : topsHeld s) (hl : loopTop s = some l) (he : s.pc = l.e)
    (top : pcTop s = some b) : loopNext s = .ok (s, b, true) := by
  have address : returnAddress s s = .ok b := returnAddress_ok.2 (.inl top)
  simp only [loopNext, hl, he, if_true, held.pcStackFree (lsp_pos_of_loopTop hl), bind_of_ok, address, map_of_ok]

theorem loopNext_of_away (hl : loopTop s = some l) (he : s.pc ≠ l.e) : loopNext s = .ok (s, s.pc + 1, false) := by
  simp only [loopNext, hl, he.symm, if_false]

theorem loopNext_of_no_loop (hl : s.lsp.val = 0) : loopNext s = .ok (s, s.pc + 1, false) := by
  simp only [loopNext, loopTop_of_no_loop hl]

/-- Outside a loop running out the state is only read. -/
theorem loopNext_state {n : State × A24 × Bool} (h : loopNext s = .ok n) : n.1 = s := by
  unfold loopNext at h
  split at h
  · cases h
    rfl
  · split at h
    · obtain ⟨_, -, h⟩ := bind_ok.1 h
      obtain ⟨b, -, rfl⟩ := map_ok.1 h
      rfl
    · cases h
      rfl

theorem nextAddress_of_no_tail (ht : s.tail = none) : nextAddress s = loopNext s := by
  simp only [nextAddress, ht]

/-- A short loop running out loops back while passes are left. -/
theorem nextAddress_of_pass_left (ht : s.tail = some x) (he : s.pc = x.e) (hm : 0 < x.more) :
    nextAddress s = .ok ({ s with tail := some { x with more := x.more - 1 } }, x.b, true) := by
  simp only [nextAddress, ht, he, if_true, hm]

theorem nextAddress_of_run_out (ht : s.tail = some x) (he : s.pc = x.e) (hm : x.more = 0) :
    nextAddress s = .ok ({ s with tail := none }, s.pc + 1, false) := by
  simp only [nextAddress, ht, he, if_true, hm, Nat.lt_irrefl, if_false]

end

/-! What the sequencer makes of the innermost loop: it stays, or it ends. The loop test works on a state `v` that
differs from `s` in the loop counters at most. -/

/-- The loop `l` on top of the stacks of `s` is still there in `t`: at its end the next address is its top. -/
structure LoopStays (s : State) (l : Level) (t : State) : Prop where
  lsp : t.lsp = s.lsp
  pcstkp : t.pcstkp = s.pcstkp
  tail : t.tail = none
  back : s.pc = l.e → some t.pc = pcTop s
  on : s.pc ≠ l.e → t.pc = s.pc + 1

section
variable {s v u t : State} {n : State × A24 × Bool} {l : Level} (held : topsHeld s)
  (h : SequencedBy s u n t)
include held h

theorem loop_stays (hl : loopTop s = some l) (same : u = { s with lcs := u.lcs }) (hd : s.dbr = none)
    (ht : s.tail = none) : LoopStays s l t := by
  obtain ⟨counts, rfl⟩ : ∃ counts, u = { s with lcs := counts } := ⟨_, same⟩
  have active := lsp_pos_of_loopTop hl
  obtain ⟨b, top⟩ := pcTop_of_topsHeld held active
  obtain ⟨l', hl', he'⟩ := loopTop_of_counts hl counts
  have next := h.next
  rw [nextAddress_of_no_tail (s := { s with lcs := counts }) ht] at next
  by_cases he : s.pc = l.e
  · rw [loopNext_of_end (s := { s with lcs := counts }) held hl' (he.trans he'.symm) top] at next
    cases next
    exact ⟨h.lsp, h.pcstkp, h.tail.trans ht, fun _ => (congrArg some (h.pc hd)).trans top.symm,
      fun hne => absurd he hne⟩
  · rw [loopNext_of_away hl' fun hpc => he (hpc.trans he')] at next
    cases next
    exact ⟨h.lsp, h.pcstkp, h.tail.trans ht, fun heq => absurd heq he, fun _ => h.pc hd⟩

theorem long_loop_ends {e : A24} (same : v = { s with lcs := v.lcs }) (ends : endLongLoop v e = .ok u) :
    loopPopped s t ∧ t.lcs = v.lcs := by
  obtain ⟨counts, rfl⟩ : ∃ counts, v = { s with lcs := counts } := ⟨_, same⟩
  obtain ⟨⟨lsp, pointer⟩, lcs⟩ := endLongLoop_popped (s := { s with lcs := counts }) held ends
  exact ⟨⟨by rw [h.lsp]; exact lsp, h.pcstkp.trans pointer⟩, h.lcs.trans lcs⟩

/-- A short loop that ends loops back once more at least. -/
theorem short_loop_ends {e : A24} {more : Nat} {counter : Bool} (hl : loopTop s = some l)
    (same : v = { s with lcs := v.lcs }) (hd : s.dbr = none) (he : s.pc = e) (hm : 0 < more)
    (ends : endShortLoop v e more counter = .ok u) :
    loopPopped s t ∧ t.lcs = v.lcs ∧ some t.pc = pcTop s ∧ t.tail = some ⟨e, t.pc, more - 1, counter⟩ := by
  obtain ⟨counts, rfl⟩ : ∃ counts, v = { s with lcs := counts } := ⟨_, same⟩
  obtain ⟨b, top⟩ := pcTop_of_topsHeld held (lsp_pos_of_loopTop hl)
  obtain ⟨⟨lsp, pointer⟩, hpc, tail⟩ := endShortLoop_popped (s := { s with lcs := counts }) held top ends
  have next := h.next
  rw [nextAddress_of_pass_left tail (hpc.trans he) hm] at next
  cases next
  have target : t.pc = b := h.pc hd
  exact ⟨⟨by rw [h.lsp]; exact lsp, h.pcstkp.trans pointer⟩, h.lcs.trans (endShortLoop_lcs ends),
    by rw [target, top], by rw [h.tail, target]⟩

/-- A loop that ends with no pass to come leaves the next address to the loop around it, if any. -/
theorem loop_ends_at_once (same : v = { s with lcs := v.lcs }) (hd : s.dbr = none) (ht : s.tail = none)
    (ends : popLoopEnd v = .ok u) :
    loopPopped s t ∧ t.lcs = v.lcs ∧ t.tail = none ∧ (s.lsp.val = 1 → t.pc = s.pc + 1) := by
  obtain ⟨counts, rfl⟩ : ∃ counts, v = { s with lcs := counts } := ⟨_, same⟩
  obtain ⟨lsp, pointer⟩ := popLoopEnd_popped (s := { s with lcs := counts }) held ends
  obtain ⟨frame, -, -⟩ := popLoopEnd_ok ends
  have rest : u.tail = none ∧ u.pc = s.pc ∧ u.lcs = counts := by
    rw [frame]
    exact ⟨ht, rfl, rfl⟩
  obtain ⟨tail, hpc, lcs⟩ := rest
  have next := h.next
  rw [nextAddress_of_no_tail tail] at next
  refine ⟨⟨by rw [h.lsp]; exact lsp, h.pcstkp.trans pointer⟩, h.lcs.trans lcs, ?_, fun single => ?_⟩
  · rw [h.tail, loopNext_state next, tail]
  · have outside : u.lsp.val = 0 := Nat.succ.inj (lsp.trans single)
    rw [loopNext_of_no_loop outside] at next
    cases next
    rw [h.pc hd, hpc]

end

/-! The loop test (R445, R447, R451). -/

section
variable {s : State} {l : Level}

theorem loopTest_of_plain (hl : loopTop s = some l) (hk : l.kind = 0) : loopTest s = testPlainLoop s l := by
  simp only [loopTest, hl, hk, if_true]

theorem loopTest_of_counting (hl : loopTop s = some l) (hk : l.kind ≠ 0) (hc : countsHere s l = true) :
    loopTest s = countLoop s l := by
  simp only [loopTest, hl, hk, hc, if_true, if_false]

theorem loopTest_of_resting (hl : loopTop s = some l) (hk : l.kind ≠ 0) (hc : countsHere s l = false) :
    loopTest s = .ok s := by
  simp only [loopTest, hl, hk, hc, Bool.false_eq_true, if_false]

theorem countsHere_of_long (hk : l.kind = 3) : countsHere s l = (s.pc + 2 == l.e) := by
  simp [countsHere, countTest, hk]

theorem countsHere_of_short (hk : l.kind = 1 ∨ l.kind = 2) (he : s.pc = l.e) : countsHere s l = true := by
  rcases hk with hk | hk <;> simp [countsHere, hk, he]

/-- The innermost loop's count made `v`. -/
def topCount (s : State) (v : W32) : State := setCount s (s.lsp.val - 1) v

theorem topCount_frame (s : State) (v : W32) : topCount s v = { s with lcs := (topCount s v).lcs } :=
  setCount_frame s _ v

theorem topCount_get (active : 0 < s.lsp.val) (v : W32) (k : Fin 7) :
    (topCount s v).lcs.get k = if k.val + 1 = s.lsp.val then v else s.lcs.get k := by
  have level : s.lsp.val - 1 = k.val ↔ k.val + 1 = s.lsp.val := by omega
  simp only [topCount, setCount_get, level]

theorem countLoop_of_long (hk : l.kind = 3) :
    countLoop s l =
      if l.count = 1 then endLongLoop (topCount s (l.count - 1)) l.e else .ok (topCount s (l.count - 1)) := by
  rw [countLoop, if_pos hk]
  rfl

/-- A loop of one instruction ends at the count 3, one of two at 2; a count of 1 ends either (R447). -/
theorem countLoop_of_short (hk : l.kind = 1 ∨ l.kind = 2) :
    countLoop s l =
      if l.count = (if l.kind = 1 then 3 else 2) then
        endShortLoop (topCount s (drawBits 32 .shortCount s)) l.e (if l.kind = 1 then 2 else 1) true
      else if l.count = 1 then popLoopEnd (topCount s (drawBits 32 .shortCount s))
      else .ok (topCount s (l.count - 1)) := by
  rw [countLoop, if_neg (by omega)]
  rfl

end

/-- Settles O8: at e - 2 the test counts, and ends the loop or leaves it; elsewhere nothing is tested and the loop
stays. -/
theorem countedLoopFlow : Obligations.CountedLoopFlow := by
  intro s l hl kind ready ht hd
  obtain ⟨held, -⟩ := flowReady_iff.1 ready
  obtain ⟨t, hs⟩ := sequenced_of_flowReady ready
  obtain ⟨u, n, h⟩ := sequencedBy_of_sequenced hs
  have counting : l.kind ≠ 0 := by omega
  have tested : s.pc + 2 = l.e →
      (if l.count = 1 then endLongLoop (topCount s (l.count - 1)) l.e else .ok (topCount s (l.count - 1))) = .ok u :=
    fun he => by
      rw [← countLoop_of_long kind, ← loopTest_of_counting hl counting (by simpa [countsHere_of_long kind] using he)]
      exact h.test
  have counted : s.pc + 2 = l.e → l.count ≠ 1 → LoopStays s l t ∧ t.lcs = (topCount s (l.count - 1)).lcs :=
    fun he hc => by
      have hu := tested he
      rw [if_neg hc] at hu
      cases hu
      exact ⟨loop_stays held h hl (topCount_frame _ _) hd ht, h.lcs⟩
  have ended : s.pc + 2 = l.e → l.count = 1 → loopPopped s t ∧ t.lcs = (topCount s (l.count - 1)).lcs :=
    fun he hc => by
      have hu := tested he
      rw [if_pos hc] at hu
      exact long_loop_ends held h (topCount_frame _ _) hu
  have resting : s.pc + 2 ≠ l.e → LoopStays s l t ∧ t.lcs = s.lcs := fun he => by
    have hu := h.test
    rw [loopTest_of_resting hl counting (by simpa [countsHere_of_long kind] using he)] at hu
    cases hu
    exact ⟨loop_stays held h hl rfl hd ht, h.lcs⟩
  refine ⟨t, hs, (sequenced_frame hs).1, fun he k => ?_, fun he hc => ?_, fun he hc => (ended he hc).1, fun he => ?_,
    fun he he' => ?_⟩
  · have lcs : t.lcs = (topCount s (l.count - 1)).lcs := by
      by_cases hc : l.count = 1
      · exact (ended he hc).2
      · exact (counted he hc).2
    rw [lcs, topCount_get (lsp_pos_of_loopTop hl)]
  · obtain ⟨stays, -⟩ := counted he hc
    exact ⟨stays.lsp, stays.pcstkp, stays.on (by bv_omega)⟩
  · obtain ⟨stays, lcs⟩ := resting (by bv_omega)
    exact ⟨stays.lsp, stays.pcstkp, lcs, stays.back he⟩
  · obtain ⟨stays, lcs⟩ := resting he
    exact ⟨stays.lsp, stays.pcstkp, lcs, stays.on he'⟩

/-! Loops that are not counter-based (R445, R448). -/

/-- The length of the loop `l` of `s`: what its DO UNTIL gave, else the way from the top of the PC stack to its end. -/
def lengthIs (s : State) (l : Level) (n : Nat) : Prop :=
  l.len = n ∧ n ≠ 0 ∨ (l.len = 0 ∧ ∃ top, pcTop s = some top ∧ n = (l.e - top).toNat + 1)

theorem plainLength_of_lengthIs {s : State} {l : Level} {n : Nat} (free : s.latentPcstkp = none)
    (h : lengthIs s l n) : plainLength s l = some n := by
  rcases h with ⟨rfl, hn⟩ | ⟨h0, b, top, rfl⟩
  · rw [plainLength, if_neg hn]
  · rw [plainLength, if_pos h0, readPcstkp_of_none free, ← pcTop, top]
    rfl

section
variable {s u : State} {l : Level} {n : Nat}

theorem testPlainLoop_of_long (hn : plainLength s l = some n) (long : 3 ≤ n) (he : s.pc + 2 = l.e) :
    testPlainLoop s l = if terminates s l.count l.term then endLongLoop s l.e else .ok s := by
  simp only [testPlainLoop, hn, if_pos (And.intro he long)]

theorem testPlainLoop_of_short (hn : plainLength s l = some n) (short : n ≤ 2) (he : s.pc = l.e) :
    testPlainLoop s l =
      if terminates s l.count l.term then endShortLoop s l.e (if n = 1 then 2 else 1) false else .ok s := by
  have notLong : ¬(s.pc + 2 = l.e ∧ 3 ≤ n) := by omega
  simp only [testPlainLoop, hn, if_neg notLong, if_pos (And.intro he short)]

/-- The test of a loop that is not counter-based leaves the counters. -/
theorem testPlainLoop_lcs (held : topsHeld s) (h : testPlainLoop s l = .ok u) : u.lcs = s.lcs := by
  have kept : (.ok s : Res State) = .ok u → u.lcs = s.lcs := fun hu => by cases hu; rfl
  unfold testPlainLoop at h
  split at h
  · exact kept h
  · split at h
    · split at h
      · exact (endLongLoop_popped held h).2
      · exact kept h
    · split at h
      · split at h
        · exact endShortLoop_lcs h
        · exact kept h
      · exact kept h

end

/-- Such a loop at its test: the condition at the start of the instruction decides whether it ends. -/
theorem plain_loop_flow {s : State} {l : Level} {n : Nat} (hd : s.dbr = none) (hl : loopTop s = some l)
    (kind : l.kind = 0) (ready : flowReady s = true) (ht : s.tail = none) (hn : lengthIs s l n) :
    ∃ t, sequenced s = .ok t ∧ t = sequencedTo s t ∧ t.lcs = s.lcs ∧
      (3 ≤ n → s.pc + 2 = l.e →
        (terminates s l.count l.term = false → LoopStays s l t) ∧
        (terminates s l.count l.term = true → loopPopped s t)) ∧
      (n ≤ 2 → s.pc = l.e → some t.pc = pcTop s ∧
        (terminates s l.count l.term = false → LoopStays s l t) ∧
        (terminates s l.count l.term = true → loopPopped s t ∧
          t.tail = some ⟨l.e, t.pc, if n = 1 then 1 else 0, false⟩)) := by
  obtain ⟨held, -⟩ := flowReady_iff.1 ready
  obtain ⟨t, hs⟩ := sequenced_of_flowReady ready
  obtain ⟨u, m, h⟩ := sequencedBy_of_sequenced hs
  have length := plainLength_of_lengthIs (held (lsp_pos_of_loopTop hl)).1 hn
  have tested := h.test
  rw [loopTest_of_plain hl kind] at tested
  have stays : (.ok s : Res State) = .ok u → LoopStays s l t := fun hu => by
    cases hu
    exact loop_stays held h hl rfl hd ht
  refine ⟨t, hs, (sequenced_frame hs).1, h.lcs.trans (testPlainLoop_lcs held tested), fun long he => ?_,
    fun short he => ?_⟩
  · rw [testPlainLoop_of_long length long he] at tested
    refine ⟨fun no => stays ?_, fun yes => ?_⟩
    · rwa [if_neg (by simp [no])] at tested
    · rw [if_pos yes] at tested
      exact (long_loop_ends held h rfl tested).1
  · rw [testPlainLoop_of_short length short he] at tested
    have goesOn : terminates s l.count l.term = false → LoopStays s l t := fun no => stays <| by
      rwa [if_neg (by simp [no])] at tested
    have ends : terminates s l.count l.term = true → loopPopped s t ∧ some t.pc = pcTop s ∧
        t.tail = some ⟨l.e, t.pc, if n = 1 then 1 else 0, false⟩ := fun yes => by
      rw [if_pos yes] at tested
      obtain ⟨some_left, left⟩ := passes_left (n = 1)
      obtain ⟨popped, -, back, tail⟩ := short_loop_ends held h hl rfl hd he some_left tested
      exact ⟨popped, back, left ▸ tail⟩
    refine ⟨?_, goesOn, fun yes => ?_⟩
    · cases decided : terminates s l.count l.term with
      | false => exact (goesOn decided).back he
      | true =>
        obtain ⟨-, back, -⟩ := ends decided
        exact back
    · obtain ⟨popped, -, tail⟩ := ends yes
      exact ⟨popped, tail⟩

/-! Counter-based loops of one or two instructions (R447). -/

/-- Such a loop at its end: by its count it ends with passes still to come, ends at once, or loops back. -/
theorem short_loop_flow {s : State} {l : Level} (hd : s.dbr = none) (hl : loopTop s = some l)
    (kind : l.kind = 1 ∨ l.kind = 2) (ready : flowReady s = true) (ht : s.tail = none) (he : s.pc = l.e) :
    ∃ t, sequenced s = .ok t ∧ t = sequencedTo s t ∧ (∃ v, t.lcs = (topCount s v).lcs) ∧
      (l.count = (if l.kind = 1 then 3 else 2) → loopPopped s t ∧ some t.pc = pcTop s ∧
        t.tail = some ⟨l.e, t.pc, if l.kind = 1 then 1 else 0, true⟩) ∧
      (l.count = 1 → loopPopped s t ∧ t.tail = none ∧ (s.lsp.val = 1 → t.pc = s.pc + 1)) ∧
      (l.count ≠ (if l.kind = 1 then 3 else 2) → l.count ≠ 1 →
        LoopStays s l t ∧ t.lcs = (topCount s (l.count - 1)).lcs) := by
  obtain ⟨held, -⟩ := flowReady_iff.1 ready
  obtain ⟨t, hs⟩ := sequenced_of_flowReady ready
  obtain ⟨u, n, h⟩ := sequencedBy_of_sequenced hs
  have tested := h.test
  rw [loopTest_of_counting hl (by omega) (countsHere_of_short kind he), countLoop_of_short kind] at tested
  have distinct : (1 : W32) ≠ if l.kind = 1 then 3 else 2 := by split <;> decide
  refine ⟨t, hs, (sequenced_frame hs).1, ?_⟩
  by_cases last : l.count = if l.kind = 1 then 3 else 2
  · rw [if_pos last] at tested
    obtain ⟨some_left, left⟩ := passes_left (l.kind = 1)
    obtain ⟨popped, lcs, back, tail⟩ := short_loop_ends held h hl (topCount_frame _ _) hd he some_left tested
    exact ⟨⟨_, lcs⟩, fun _ => ⟨popped, back, left ▸ tail⟩, fun hc => absurd (hc.symm.trans last) distinct,
      fun hc => absurd last hc⟩
  · rw [if_neg last] at tested
    by_cases one : l.count = 1
    · rw [if_pos one] at tested
      obtain ⟨popped, lcs, tail, on⟩ := loop_ends_at_once held h (topCount_frame _ _) hd ht tested
      exact ⟨⟨_, lcs⟩, fun hc => absurd hc last, fun _ => ⟨popped, tail, on⟩, fun _ hc => absurd one hc⟩
    · rw [if_neg one] at tested
      cases tested
      exact ⟨⟨_, h.lcs⟩, fun hc => absurd hc last, fun hc => absurd hc one,
        fun _ _ => ⟨loop_stays held h hl (topCount_frame _ _) hd ht, h.lcs⟩⟩

/-- A short loop running out, no loop being on the stacks: it loops back while passes are left, then goes on. -/
theorem tail_flow {s : State} {x : Tail} (hd : s.dbr = none) (hx : s.tail = some x) (he : s.pc = x.e)
    (hl : s.lsp.val = 0) :
    ∃ t, sequenced s = .ok t ∧ t = sequencedTo s t ∧
      (0 < x.more → t.pc = x.b ∧ t.tail = some { x with more := x.more - 1 }) ∧
      (x.more = 0 → t.pc = s.pc + 1 ∧ t.tail = none) := by
  have ready : flowReady s = true := by simp [flowReady, hl]
  obtain ⟨t, hs⟩ := sequenced_of_flowReady ready
  obtain ⟨u, n, h⟩ := sequencedBy_of_sequenced hs
  have untested := h.test
  rw [loopTest, loopTop_of_no_loop hl] at untested
  cases untested
  have next := h.next
  refine ⟨t, hs, (sequenced_frame hs).1, fun left => ?_, fun none => ?_⟩
  · rw [nextAddress_of_pass_left hx he left] at next
    cases next
    exact ⟨h.pc hd, h.tail⟩
  · rw [nextAddress_of_run_out hx he none] at next
    cases next
    exact ⟨h.pc hd, h.tail⟩

/-- Settles O9: the three kinds of loops, each by its own flow. -/
theorem conditionAndShortLoopFlow : Obligations.ConditionAndShortLoopFlow := by
  intro s hd
  refine ⟨fun l n hl kind ready ht hn => ?_, fun l hl kind ready ht he => ?_, fun x hx he hl => tail_flow hd hx he hl⟩
  · obtain ⟨t, hs, frame, lcs, long, short⟩ := plain_loop_flow hd hl kind ready ht hn
    refine ⟨t, hs, frame, lcs, fun h3 he => ⟨fun no => ?_, (long h3 he).2⟩, fun h2 he => ?_⟩
    · have stays := (long h3 he).1 no
      exact ⟨stays.lsp, stays.pcstkp, stays.on (by bv_omega)⟩
    · obtain ⟨back, goesOn, ends⟩ := short h2 he
      refine ⟨back, fun no => ⟨(goesOn no).lsp, (goesOn no).pcstkp, (goesOn no).tail⟩, fun yes => ?_⟩
      obtain ⟨⟨lsp, pointer⟩, tail⟩ := ends yes
      exact ⟨lsp, pointer, tail⟩
  · obtain ⟨t, hs, frame, ⟨v, lcs⟩, last, one, other⟩ := short_loop_flow hd hl kind ready ht he
    have active := lsp_pos_of_loopTop hl
    refine ⟨t, hs, frame, fun k hk => ?_, fun hc => ?_, fun hc => ?_, fun hlast hone => ?_⟩
    · rw [lcs, topCount_get active, if_neg hk]
    · obtain ⟨⟨lsp, pointer⟩, back, tail⟩ := last hc
      exact ⟨lsp, pointer, back, tail⟩
    · obtain ⟨⟨lsp, pointer⟩, tail, on⟩ := one hc
      exact ⟨lsp, pointer, tail, on⟩
    · obtain ⟨stays, counts⟩ := other hlast hone
      exact ⟨stays.lsp, stays.pcstkp, stays.tail, stays.back he, fun k hk => by
        rw [counts, topCount_get active, if_pos hk]⟩

/-! NOP and the wait of IDLE (R466 to R468, R540). -/

theorem waitHere_of_not_inSlot {s : State} (h : inSlot s = false) (t : State) :
    waitHere s t = .ok { t with pc := s.pc, idle := some t.pc } := by
  simp [waitHere, notInSlot, h]

theorem exec_idle16_of_part {s : State} (h : s.cfg.part = .adsp21061) :
    exec .idle16 s = always s fun t => waitHere s t := if_pos h

/-- Settles O60: NOP leaves the sequenced state, and the two IDLE forms wait where they stand. -/
theorem idleNopResults : Obligations.IdleNopResults := by
  intro s hs
  have waits : ∀ {i : Instr}, exec i s = always s (waitHere s ·) → inSlot s = false →
      completes i s fun t => { t with pc := s.pc, idle := some t.pc } := fun hi slot =>
    ((runsAs_always hi).congr (waitHere_of_not_inSlot slot)).completes hs
  exact ⟨(runsAs_always rfl).completes hs, waits rfl, fun slot part => waits (exec_idle16_of_part part) slot,
    fun part => if_neg part⟩

/-- The timer off leaves the state as it is (R540). -/
theorem timerTick_of_off {s : State} (h : bitOf (effMode2 s) 5 = false) (t : State) : timerTick s t = t :=
  if_neg (by rw [h]; exact Bool.false_ne_true)

theorem timerTick_of_counting {s t : State} (h : bitOf (effMode2 s) 5 = true) (ht : t.tcount ≠ 0) :
    timerTick s t = { t with tcount := t.tcount - 1 } := by
  rw [timerTick, if_pos h, if_neg ht]

/-- At zero the timer starts again and requests both of its interrupts, those whose routines are not in service. -/
theorem timerTick_of_expired {s t : State} (h : bitOf (effMode2 s) 5 = true) (ht : t.tcount = 0) :
    timerTick s t = { t with tcount := t.tperiod, irptl := t.irptl ||| (0x00800010 &&& ~~~t.imaskp) } := by
  have requests : t.irptl ||| (bitMask 23 &&& ~~~t.imaskp) ||| (bitMask 4 &&& ~~~t.imaskp) =
      t.irptl ||| (0x00800010 &&& ~~~t.imaskp) := by
    rw [BitVec.or_assoc, ← BitVec.and_or_distrib_right]
    rfl
  rw [timerTick, if_pos h, if_pos ht, ← requests]
  rfl

/-- What passes at a boundary before the timer ticks for a step of waiting. -/
def waited (s : State) : State := { s with latent := [], latentPcstkp := none, drawn := s.drawn + 1 }

/-- Settles O6: the step is the core's wait, a timer tick on the boundary's state. -/
theorem idleStepWaits : Obligations.IdleStepWaits := by
  intro s₀ s a hs entry idle
  have waits : step s₀ = .next (timerTick s (waited s)) := by
    rw [step_of_no_entry entry, atBoundaryOf, ← hs, runCore, idle]
    rfl
  refine ⟨_, waits, timerTick_frame _ _, fun off => ?_, fun on running => ?_, fun on expired => ?_⟩
  · rw [timerTick_of_off off]
    exact ⟨rfl, rfl⟩
  · rw [timerTick_of_counting (t := waited s) on running]
    exact ⟨rfl, rfl⟩
  · rw [timerTick_of_expired (t := waited s) on expired]
    exact ⟨rfl, rfl⟩

/-! The system register bit instructions (R455 to R459). -/

/-- BTF alone changes (R458). -/
theorem putBtf_eq (t : State) (b : Bool) :
    putBtf t b = { t with astat := if b then t.astat ||| 0x00040000 else t.astat &&& ~~~0x00040000 } := by
  have kept : t.stky ||| 0 = t.stky := BitVec.or_zero
  have placed : (⟨btfMask, flagBit 18 b, 0⟩ : FlagOut).onAstat t.astat =
      if b then t.astat ||| 0x00040000 else t.astat &&& ~~~0x00040000 := by
    refine BitVec.eq_of_getLsbD_eq fun k hk => ?_
    cases b
    · simp [FlagOut.onAstat, flagBit, btfMask]
    · have bit : (flagBit 18 true &&& btfMask) = 0x00040000 := by decide
      have mask : btfMask = 0x00040000 := rfl
      rw [FlagOut.onAstat, bit, mask]
      simp only [BitVec.getLsbD_or, BitVec.getLsbD_and, BitVec.getLsbD_not, hk, decide_true, Bool.true_and, if_true]
      cases t.astat.getLsbD k <;> cases (0x00040000 : W32).getLsbD k <;> rfl
  rw [putBtf, putFlags, placed, kept]

/-- All the named bits are 1 (R458). -/
theorem and_beq_eq_decide (x v : W32) :
    (x &&& v == v) = decide (∀ k : Fin 32, v.getLsbD k = true → x.getLsbD k = true) := by
  rw [Bool.eq_iff_iff, beq_iff_eq, decide_eq_true_iff]
  constructor
  · intro h k hv
    rw [← h, BitVec.getLsbD_and, Bool.and_eq_true] at hv
    exact hv.1
  · intro h
    refine BitVec.eq_of_getLsbD_eq fun k hk => ?_
    rw [BitVec.getLsbD_and, Bool.and_eq_right_iff_imp]
    exact h ⟨k, hk⟩

theorem putSreg_answers {s : State} {r : Sreg} {v : W32} (h : r = .irptl → v &&& 0x00000207 = 0) (t : State) :
    ∃ u, putSreg s t r v = .ok u := by
  cases r
  case irptl => exact ⟨_, if_pos (h rfl)⟩
  all_goals exact ⟨_, rfl⟩

/-- Settles O58: a bit instruction writes the register as a move does, or BTF alone. -/
theorem bitInstructionResults : Obligations.BitInstructionResults := by
  intro s r v hs x writes tests
  have write : ∀ {i : Instr} {w : W32},
      (exec i s = always s fun t => putSreg s t r w) → writes i w := fun {i w} hi hw => by
    have runs : RunsAs i s fun t => putUreg s t (.sys r) (bus32 w) .register :=
      (runsAs_always hi).congr fun t => by rw [putUreg, low32_bus32]
    refine runs.transfers hs fun t _ => ?_
    rw [putUreg, low32_bus32]
    exact putSreg_answers hw t
  have test : ∀ {i : Instr} {b b' : Bool}, (exec i s = always s fun t => .ok (putBtf t b)) → b = b' → tests i b' := by
    rintro i b _ hi rfl
    obtain ⟨t, ht⟩ := sequenced_of_flowReady hs
    have astat : t.astat = s.astat := (sameStatus_of_sequenced ht).astat
    refine ⟨t, ht, (sequenced_frame ht).1, ?_⟩
    simp only [runsAs_always hi t ht, putBtf_eq, astat, toOutcome_ok]
  exact ⟨write rfl, write rfl, write rfl, test rfl (and_beq_eq_decide x v), test rfl rfl⟩

/-! The conditions (R421). -/

/-- With no latency running the effective values are the registers' own (R593). -/
theorem effective_of_no_latency {s : State} (h : s.latent = []) (r : Sreg) (cur : W32) (d : DrawTag) :
    effective s r cur d = cur := by
  rw [effective, h]
  rfl

/-- "ALU less than zero", the floating-point case apart (note 1 of Table 3.2). -/
theorem isLess_eq (a : W32) (sat : Bool) :
    isLess a sat = if bitOf a 10 then bitOf a 2 && !bitOf a 0 else xor (bitOf a 2) (bitOf a 1 && !sat) := by
  cases h : bitOf a 10 <;> simp [isLess, h]

theorem isLessEq_eq (a : W32) (sat : Bool) :
    isLessEq a sat = (isLess a sat || (bitOf a 10 && bitOf a 2) || bitOf a 0) := by
  unfold isLessEq isLess
  cases bitOf a 10 <;> cases bitOf a 2 <;> cases bitOf a 0 <;> simp

/-- Settles O57: with no latency running each condition reads its own bits; "less" and "less or equal" are taken by the
form of the last ALU result. -/
theorem conditionsReadTable : Obligations.ConditionsReadTable := by
  intro s hl a sign low on
  have astat : effAstat s = s.astat := effective_of_no_latency hl _ _ _
  have mode1 : effMode1 s = s.mode1 := effective_of_no_latency hl _ _ _
  have less : isLess (effAstat s) (alusat s) = sign := by
    rw [alusat, astat, mode1]
    exact isLess_eq _ _
  have lessEq : isLessEq (effAstat s) (alusat s) = low := by
    rw [isLessEq_eq, less, astat]
  have count : inShortBody s = false → (on .lce = false ↔ curlcntr s = 1) := fun h => by
    simp [on, condition, conditionBase, readCurlcntr, h]
  have master : on .bm = true ↔ bitOf s.mode1 17 = false ∧ bitOf s.mode1 18 = false ∧ s.busMaster = true := by
    simp [on, condition, conditionBase, busConditionOn, mode1, and_assoc]
  have notMaster : bitOf s.mode1 17 = false → bitOf s.mode1 18 = false → on .nbm = !s.busMaster := fun h17 h18 => by
    simp [on, condition, conditionBase, busConditionOn, mode1, h17, h18]
  have bit : ∀ k, bitOf (effAstat s) k = bitOf a k := fun k => by rw [astat]
  exact ⟨bit 0, less, lessEq, bit 3, bit 1, bit 7, bit 6, bit 11, bit 12, rfl, rfl, rfl, rfl, bit 18, master, count,
    rfl, rfl, congrArg (!·) less, congrArg (!·) lessEq, rfl, rfl, rfl, rfl, rfl, rfl, rfl, rfl, rfl, rfl, rfl,
    notMaster⟩

/-! Branches, each by its form (R430 to R439). -/

section
variable (s : State) (cond : Cond) (db : Bool) (c : Option Compute)

theorem exec_jumpAbs (a : A24) : exec (.jumpAbs cond a db c) s =
    branch cond db false (slotEffect c s) s fun t => jumpTo s t a db := rfl

theorem exec_jumpRel (off : A24) : exec (.jumpRel cond off db c) s =
    branch cond db false (slotEffect c s) s fun t => jumpTo s t (s.pc + off) db := rfl

theorem exec_jumpInd (m i : Fin 8) : exec (.jumpInd cond m i db c) s =
    branch cond db false (slotEffect c s) s fun t => jumpTo s t (dag2Reg s .i i + dag2Reg s .m m) db := rfl

theorem exec_jumpCi (tg : Target) : exec (.jumpCi cond tg db c) s =
    branch cond db false (slotEffect c s) s fun t => jumpTo s (clearCurrent s t) (targetOf s tg) db := rfl

theorem exec_jumpLa (tg : Target) (ci : Bool) : exec (.jumpLa cond tg db ci c) s =
    branch cond db false (slotEffect c s) s fun t =>
      (abortLoop s t (targetOf s tg)).map fun t =>
        goTo s (if ci then clearCurrent s t else t) (targetOf s tg) db := rfl

theorem exec_callAbs (a : A24) : exec (.callAbs cond a db c) s =
    branch cond db true (slotEffect c s) s fun t => callTo s t a db := rfl

theorem exec_callRel (off : A24) : exec (.callRel cond off db c) s =
    branch cond db true (slotEffect c s) s fun t => callTo s t (s.pc + off) db := rfl

theorem exec_callInd (m i : Fin 8) : exec (.callInd cond m i db c) s =
    branch cond db true (slotEffect c s) s fun t => callTo s t (dag2Reg s .i i + dag2Reg s .m m) db := rfl

theorem exec_rts : exec (.rts cond db c) s =
    branch cond db false (slotEffect c s) s fun t =>
      (demand (!needsLr s) .plainReturnIntoLoop).bind fun _ => returnTo s t db := rfl

theorem exec_rtsLr : exec (.rtsLr cond db c) s =
    branch cond db false (slotEffect c s) s fun t => returnTo s t db := rfl

theorem exec_rti : exec (.rti cond db c) s =
    branch cond db false (slotEffect c s) s fun t =>
      (demand (!needsLr s) .plainReturnIntoLoop).bind fun _ => returnInterrupt s t db := rfl

end

/-! What a branch that stands where it may does on the sequenced state (R430, R440, R449). -/

/-- Where a branch may stand no loop ends. -/
theorem offLoopEnds_of_branchFree {s : State} (h : branchFree s = true) : offLoopEnds s := by
  obtain ⟨-, away⟩ := branchFree_iff.1 h
  rw [atLoopEnd, Bool.or_eq_false_iff] at away
  exact offLoopEnds_of_atInnerEnd away.1

theorem branchHere_of_branchFree {s : State} (h : branchFree s = true) (call : Bool) : branchHere s call = .ok () := by
  obtain ⟨slot, away⟩ := branchFree_iff.1 h
  simp [branchHere, notInSlot, slot, away]

theorem branchHere_of_callFree {s : State} {db : Bool} (h : callFree s db = true) :
    branchHere s (true && !db) = .ok () := by
  simp only [callFree, Bool.and_eq_true, Bool.not_eq_true'] at h
  obtain ⟨slot, free⟩ := h
  rw [branchHere, notInSlot, slot, Bool.not_false, demand_true, bind_of_ok, Bool.true_and]
  exact demand_ok.2 free

section
variable {i : Instr} {s : State} {cond : Cond} {db call : Bool} {r : Res Effect} {e : Effect} {f : State → Res State}

theorem runsAs_taken (hi : exec i s = branch cond db call r s f) (here : branchHere s (call && !db) = .ok ())
    (may : mayTest cond s = true) (he : r = .ok e) (holds : condition s cond = true) :
    RunsAs i s fun t => f (applyEffect s t e) := fun t ht => by
  rw [hi, branch, here, bind_of_ok, demand_of_mayTest may, bind_of_ok, ht, bind_of_ok, if_pos holds, he, bind_of_ok]

/-- Under a false condition the slots of a delayed branch are restricted all the same (R440). -/
theorem completes_untaken (hs : flowReady s = true) (hi : exec i s = branch cond db call r s f)
    (here : branchHere s (call && !db) = .ok ()) (may : mayTest cond s = true) (fails : condition s cond = false) :
    completes i s fun t => notTaken s t db := by
  have runs : RunsAs i s fun t => .ok (notTaken s t db) := fun t ht => by
    rw [hi, branch, here, bind_of_ok, demand_of_mayTest may, bind_of_ok, ht, bind_of_ok,
      if_neg (by rw [fails]; exact Bool.false_ne_true)]
    rfl
  exact runs.completes hs

end

theorem goTo_eq_branched (s t : State) (j : A24) (db : Bool) : goTo s t j db = branched s t j db := by
  cases db <;> rfl

@[simp] theorem branched_lsp (s t : State) (j : A24) (db : Bool) : (branched s t j db).lsp = t.lsp := by
  cases db <;> rfl

@[simp] theorem branched_pcstkp (s t : State) (j : A24) (db : Bool) : (branched s t j db).pcstkp = t.pcstkp := by
  cases db <;> rfl

@[simp] theorem branched_imaskp (s t : State) (j : A24) (db : Bool) : (branched s t j db).imaskp = t.imaskp := by
  cases db <;> rfl

@[simp] theorem branched_irptl (s t : State) (j : A24) (db : Bool) : (branched s t j db).irptl = t.irptl := by
  cases db <;> rfl

/-- A branch neither changes the stack pointers and the interrupt registers nor looks at them. -/
theorem branched_pointers {t w : State}
    (hw : w = { t with lsp := w.lsp, pcstkp := w.pcstkp, imaskp := w.imaskp, irptl := w.irptl }) (s : State) (j : A24)
    (db : Bool) :
    branched s w j db =
      { branched s t j db with lsp := w.lsp, pcstkp := w.pcstkp, imaskp := w.imaskp, irptl := w.irptl } := by
  generalize w.lsp = lsp, w.pcstkp = pcstkp, w.imaskp = imaskp, w.irptl = irptl at hw
  subst hw
  cases db <;> rfl

theorem jumpTo_of_far {s : State} {j : A24} (far : intoLoopEnd s j = false) (t : State) (db : Bool) :
    jumpTo s t j db = .ok (branched s t j db) := by
  simp [jumpTo, targetFree, far, goTo_eq_branched]

/-! The interrupt in service (R439, R506, R517). -/

theorem lowestBit_of_zero : lowestBit 0 = none := by decide

theorem lowestBit_eq_some {w : W32} {b : Nat} (hb : b < 32) (hw : bitOf w b = true)
    (lowest : ∀ k < b, bitOf w k = false) : lowestBit w = some b := by
  rw [lowestBit, List.find?_range_eq_some]
  exact ⟨hw, List.mem_range.2 hb, fun k hk => by rw [lowest k hk]; rfl⟩

theorem leaveService_eq {s t : State} (hp : t.imaskp = s.imaskp) (hi : t.irptl = s.irptl) (b : Nat) :
    leaveService b t = { t with imaskp := s.imaskp &&& ~~~bitMask b, irptl := s.irptl &&& ~~~bitMask b } := by
  rw [leaveService, hp, hi]

theorem leaveService_branched (s t : State) (j : A24) (db : Bool) (b : Nat) :
    leaveService b (branched s t j db) = branched s (leaveService b t) j db := by
  cases db <;> rfl

theorem clearCurrent_of_no_service {s : State} (h : readImaskp s = 0) (t : State) : clearCurrent s t = t := by
  rw [clearCurrent, h, lowestBit_of_zero]

theorem clearCurrent_of_lowestBit {s : State} {b : Nat} (h : lowestBit (readImaskp s) = some b) (t : State) :
    clearCurrent s t = leaveService b t := by
  rw [clearCurrent, h]

theorem clearCurrent_frame (s t : State) :
    clearCurrent s t = { t with imaskp := (clearCurrent s t).imaskp, irptl := (clearCurrent s t).irptl } := by
  unfold clearCurrent
  split <;> rfl

/-- What the modifier (CI) of a JUMP (LA) makes of `t`. -/
def serviceEnded (ci : Bool) (s t : State) : State := if ci then clearCurrent s t else t

theorem serviceEnded_frame (ci : Bool) (s t : State) :
    serviceEnded ci s t =
      { t with imaskp := (serviceEnded ci s t).imaskp, irptl := (serviceEnded ci s t).irptl } := by
  cases ci
  · rfl
  · exact clearCurrent_frame s t

@[simp] theorem serviceEnded_lsp (ci : Bool) (s t : State) : (serviceEnded ci s t).lsp = t.lsp := by
  rw [serviceEnded_frame]

@[simp] theorem serviceEnded_pcstkp (ci : Bool) (s t : State) : (serviceEnded ci s t).pcstkp = t.pcstkp := by
  rw [serviceEnded_frame]

theorem serviceEnded_of_no_service {ci : Bool} {s : State} (h : ci = false ∨ readImaskp s = 0) (t : State) :
    serviceEnded ci s t = t := by
  cases ci
  · rfl
  · exact clearCurrent_of_no_service (h.resolve_left Bool.noConfusion) t

/-! Jumps (R430 to R433, R438, R439). -/

/-- The loop a JUMP (LA) leaves behind is judged by the stacks, which a computation does not change. -/
theorem abortTarget_applyEffect (s o : State) (e : Effect) (n : Fin 7) (j : A24) :
    abortTarget { applyEffect s o e with lsp := n } j = abortTarget { o with lsp := n } j := by
  rw [applyEffect_frame]
  rfl

theorem popPc_of_entry {t : State} {p : BitVec 5} (ht : t.pcstkp = p) (h0 : p ≠ 0) (h31 : p ≠ 31) (s : State) :
    popPc s t = .ok { t with pcstkp := p - 1 } := by
  rw [popPc, ht, if_neg h0, if_neg h31]

/-- What an abort makes of `t`: the loop stacks and the PC stack popped once. -/
def aborted (t : State) : State := { t with lsp := ⟨t.lsp.val - 1, by omega⟩, pcstkp := t.pcstkp - 1 }

theorem abortLoop_answers {s o : State} {j : A24} (active : s.lsp.val ≠ 0) (free : s.latentPcstkp = none)
    (held : o.lsp.val ≠ 0) (ready : popReady o = true) (allowed : ∀ p, popLoops o = .ok p → abortTarget p j = .ok ())
    (e : Effect) : abortLoop s (applyEffect s o e) j = .ok (aborted (applyEffect s o e)) := by
  obtain ⟨-, h0, h31⟩ := popReady_iff.1 ready
  have pointer := applyEffect_lsp s o e
  have popped : popLoops (applyEffect s o e) =
      .ok { applyEffect s o e with lsp := ⟨(applyEffect s o e).lsp.val - 1, by omega⟩ } :=
    popLoops_ok.2 ⟨by rwa [pointer], rfl⟩
  have target :
      abortTarget { applyEffect s o e with lsp := ⟨(applyEffect s o e).lsp.val - 1, by omega⟩ } j = .ok () := by
    simp only [pointer]
    rw [abortTarget_applyEffect]
    exact allowed _ (popLoops_ok.2 ⟨held, rfl⟩)
  have entry := applyEffect_pcstkp s o e
  refine bind_ok.2 ⟨(), demand_ok.2 (bne_iff_ne.2 active), bind_ok.2 ⟨(), pcStackFree_ok.2 free,
    bind_ok.2 ⟨_, popped, bind_ok.2 ⟨(), target, popPc_of_entry rfl ?_ ?_ s⟩⟩⟩⟩
  · exact fun h => h0 (entry.symm.trans h)
  · exact fun h => h31 (entry.symm.trans h)

/-- A taken JUMP (LA): the computation, the abort, (CI), and the branch. -/
theorem exec_jumpLa_of_taken {s o : State} {cond : Cond} {c : Option Compute} {e : Effect} {tg : Target} {db ci : Bool}
    (free : branchFree s = true) (may : mayTest cond s = true) (he : slotEffect c s = .ok e)
    (holds : condition s cond = true) (ho : sequenced s = .ok o)
    (pops : abortLoop s (applyEffect s o e) (targetOf s tg) = .ok (aborted (applyEffect s o e))) :
    exec (.jumpLa cond tg db ci c) s =
      .next (branched s (serviceEnded ci s (aborted (applyEffect s o e))) (targetOf s tg) db) := by
  have taken := runsAs_taken (exec_jumpLa s cond db c tg ci) (branchHere_of_branchFree free _) may he holds o ho
  simp only [pops, map_of_ok, toOutcome_ok, goTo_eq_branched] at taken
  exact taken

/-- Settles O52: a taken jump goes on after its computation, (CI) ends the routine in service first, and (LA) pops both
stacks. -/
theorem jumpResults : Obligations.JumpResults := by
  intro s cond c db e addr off m i tg hs free may he far ind j
  have here := fun call => branchHere_of_branchFree free call
  have target : targetOf s tg = j := by cases tg <;> rfl
  have latched : ∀ {t : State}, sequenced s = .ok t →
      (applyEffect s t e).imaskp = s.imaskp ∧ (applyEffect s t e).irptl = s.irptl := fun ht => by
    obtain ⟨-, hirptl, himaskp⟩ := sameLatch_of_sequenced ht
    exact ⟨(applyEffect_imaskp ..).trans himaskp, (applyEffect_irptl ..).trans hirptl⟩
  refine ⟨fun holds => ?_, fun fails => ?_, fun o holds ready ho active readyAfter allowed ci => ?_⟩
  · have jump : ∀ {k : Instr} {j : A24},
        (exec k s = branch cond db false (slotEffect c s) s fun t => jumpTo s t j db) → far k j := fun hk hj =>
      ((runsAs_taken hk (here _) may he holds).congr fun t => jumpTo_of_far hj _ _).completes hs
    have ends := runsAs_taken (exec_jumpCi s cond db c tg) (here _) may he holds
    rw [target] at ends
    refine ⟨jump (exec_jumpAbs ..), jump (exec_jumpRel ..), jump (exec_jumpInd ..), fun idle hj => ?_,
      fun b hb serviced lowest hj => ?_⟩
    · exact (ends.congr fun t => by rw [clearCurrent_of_no_service idle, jumpTo_of_far hj]).completes hs
    · refine (ends.congr_of_sequenced fun t ht => ?_).completes hs
      obtain ⟨himaskp, hirptl⟩ := latched ht
      rw [clearCurrent_of_lowestBit (lowestBit_eq_some hb serviced lowest), leaveService_eq himaskp hirptl,
        jumpTo_of_far hj]
  · have skips : ∀ {k : Instr} {f : State → Res State},
        exec k s = branch cond db false (slotEffect c s) s f → completes k s fun t => notTaken s t db := fun hk =>
      completes_untaken hs hk (here _) may fails
    exact ⟨skips (exec_jumpAbs ..), skips (exec_jumpRel ..), skips (exec_jumpInd ..), skips (exec_jumpCi ..),
      fun ci => skips (exec_jumpLa ..)⟩
  · obtain ⟨himaskp, hirptl⟩ := latched ho
    have inLoop : s.lsp.val ≠ 0 := by
      rw [← (pointers_of_offLoopEnds (offLoopEnds_of_branchFree free) ho).1]
      exact Nat.ne_of_gt active
    have pops := abortLoop_answers inLoop (popReady_iff.1 ready).1 (Nat.ne_of_gt active) readyAfter allowed e
    rw [← target] at pops ⊢
    refine ⟨_, exec_jumpLa_of_taken free may he holds ho pops, ?_, ?_, ?_, fun kept => ?_,
      fun b hb hci serviced lowest => ?_⟩
    · have popped : (aborted (applyEffect s o e)).lsp.val = o.lsp.val - 1 :=
        congrArg (·.val - 1) (applyEffect_lsp s o e)
      rw [branched_lsp, serviceEnded_lsp, popped]
      exact Nat.sub_add_cancel active
    · rw [branched_pcstkp, serviceEnded_pcstkp]
      exact congrArg (· - 1) (applyEffect_pcstkp s o e)
    · rw [branched_lsp, branched_pcstkp, branched_imaskp, branched_irptl]
      refine branched_pointers ?_ _ _ _
      rw [serviceEnded_lsp, serviceEnded_pcstkp]
      exact serviceEnded_frame _ _ _
    · rw [branched_imaskp, branched_irptl, serviceEnded_of_no_service kept]
      exact ⟨himaskp, hirptl⟩
    · have left : serviceEnded ci s (aborted (applyEffect s o e)) = leaveService b (aborted (applyEffect s o e)) := by
        rw [serviceEnded, if_pos hci, clearCurrent_of_lowestBit (lowestBit_eq_some hb serviced lowest)]
      rw [branched_imaskp, branched_irptl, left, leaveService_eq (t := aborted (applyEffect s o e)) himaskp hirptl]
      exact ⟨rfl, rfl⟩

/-! Calls (R434, R449). -/

/-- The mark of an entry that a call pushes: whether the call stands at the end of a loop. -/
theorem pushCall_endCalls_get (s t : State) (a : A24) (k : Fin 30) :
    (pushCall s t a).endCalls.get k =
      if k.val = t.pcstkp.toNat then atLoopEnd s else (pushPc t a).endCalls.get k := by
  simp only [pushCall]
  split
  · next room => simp only [get_set, eq_comm]
  · next full => rw [if_neg (by omega)]

theorem callTo_of_far {s : State} {j : A24} (far : intoLoopEnd s j = false) (free : s.latentPcstkp = none) (t : State)
    (db : Bool) :
    callTo s t j db = .ok (branched s (pushCall s t (if db = true then s.pc + 3 else t.pc)) j db) := by
  have ready : pcStackFree s = .ok () := pcStackFree_ok.2 free
  simp only [callTo, targetFree, far, Bool.not_false, demand_true, bind_of_ok, ready, map_of_ok, goTo_eq_branched]

/-- Settles O53: a taken call pushes its return address after its computation and goes on. -/
theorem callResults : Obligations.CallResults := by
  refine ⟨fun s t a => ⟨pushCall_frame s t a, pushCall_endCalls_get s t a⟩, ?_⟩
  intro s cond c db e addr off m i hs free may he fresh call
  have here := branchHere_of_callFree free
  refine ⟨fun holds => ?_, fun fails => ?_⟩
  · have calls : ∀ {k : Instr} {j : A24},
        (exec k s = branch cond db true (slotEffect c s) s fun t => callTo s t j db) → call k j := fun hk hj =>
      ((runsAs_taken hk here may he holds).congr fun t => by
        rw [callTo_of_far hj fresh, applyEffect_pc]).completes hs
    exact ⟨calls (exec_callAbs ..), calls (exec_callRel ..), calls (exec_callInd ..)⟩
  · have skips : ∀ {k : Instr} {f : State → Res State},
        exec k s = branch cond db true (slotEffect c s) s f → completes k s fun t => notTaken s t db := fun hk =>
      completes_untaken hs hk here may fails
    exact ⟨skips (exec_callAbs ..), skips (exec_callRel ..), skips (exec_callInd ..)⟩

/-! Returns (R435 to R437, R449, R517, R523). -/

section
variable {s : State} {cond : Cond} {c : Option Compute} {db : Bool} {e : Effect} (free : branchFree s = true)
  (may : mayTest cond s = true) (he : slotEffect c s = .ok e) (holds : condition s cond = true)
include free may he holds

theorem runsAs_rtsLr : RunsAs (.rtsLr cond db c) s fun t => returnTo s (applyEffect s t e) db :=
  runsAs_taken (exec_rtsLr ..) (branchHere_of_branchFree free _) may he holds

theorem runsAs_rts (plain : needsLr s = false) :
    RunsAs (.rts cond db c) s fun t => returnTo s (applyEffect s t e) db :=
  (runsAs_taken (exec_rts ..) (branchHere_of_branchFree free _) may he holds).congr fun t => by
    rw [plain, Bool.not_false, demand_true, bind_of_ok]

theorem runsAs_rti (plain : needsLr s = false) :
    RunsAs (.rti cond db c) s fun t => returnInterrupt s (applyEffect s t e) db :=
  (runsAs_taken (exec_rti ..) (branchHere_of_branchFree free _) may he holds).congr fun t => by
    rw [plain, Bool.not_false, demand_true, bind_of_ok]

/-- RTS and RTI do not return where RTS (LR) is called for. -/
theorem plainReturn_refused (hs : flowReady s = true) (lr : needsLr s = true) :
    exec (.rts cond db c) s = .refused .plainReturnIntoLoop ∧
      exec (.rti cond db c) s = .refused .plainReturnIntoLoop := by
  have refuses : ∀ {i : Instr} {f : State → Res State}, exec i s = branch cond db false (slotEffect c s) s (fun t =>
      (demand (!needsLr s) .plainReturnIntoLoop).bind fun _ => f t) → exec i s = .refused .plainReturnIntoLoop :=
    fun hi => (runsAs_taken hi (branchHere_of_branchFree free _) may he holds).refuses hs fun t _ => by
      rw [lr, Bool.not_true, demand_false, bind_of_error]
  exact ⟨refuses (exec_rts ..), refuses (exec_rti ..)⟩

end

/-- A return goes on at the address on top and leaves the popped stack. -/
theorem returnTo_eq {s t u : State} {j : A24} (free : s.latentPcstkp = none) (address : returnAddress s t = .ok j)
    (pops : popPc s t = .ok u) (db : Bool) : returnTo s t db = .ok (branched s u j db) := by
  have ready : pcStackFree s = .ok () := pcStackFree_ok.2 free
  rw [returnTo, ready, bind_of_ok, address, bind_of_ok, pops, map_of_ok, goTo_eq_branched]

theorem returnTo_of_empty {s t : State} (free : s.latentPcstkp = none) (h : t.pcstkp = 0) (db : Bool) :
    returnTo s t db = .error (.refuse .emptyStackPop) := by
  have ready : pcStackFree s = .ok () := pcStackFree_ok.2 free
  have none : pcTop t = none := by simp [pcTop, pcEntry, h]
  simp only [returnTo, ready, bind_of_ok, returnAddress, none, h, if_true, refused, bind_of_error]

/-- From the overflowed stack a return goes to a free address and leaves a free pointer (R35, U8). -/
theorem returnTo_of_overflow {s t : State} (free : s.latentPcstkp = none) (h : t.pcstkp = 31) (db : Bool) :
    returnTo s t db =
      .ok (branched s { t with pcstkp := drawBits 5 .overflowPop s } (drawBits 24 .pcstk s) db) := by
  have none : pcTop t = none := by simp [pcTop, pcEntry, h]
  have occupied : t.pcstkp ≠ 0 := by rw [h]; decide
  refine returnTo_eq free (returnAddress_ok.2 (.inr ⟨none, occupied, rfl⟩)) (popPc_ok.2 ⟨occupied, ?_⟩) db
  rw [if_pos h]

theorem returnTo_of_top {s t : State} {j : A24} {p : BitVec 5} (ready : popReady s = true) (hp : t.pcstkp = s.pcstkp)
    (top : pcTop t = some j) (hq : s.pcstkp = p) (db : Bool) :
    returnTo s t db = .ok (branched s { t with pcstkp := p - 1 } j db) := by
  obtain ⟨free, h0, h31⟩ := popReady_iff.1 ready
  subst hq
  exact returnTo_eq free (returnAddress_ok.2 (.inl top)) (popPc_of_entry hp h0 h31 s) db

theorem outerLoops_of_no_loop {s : State} (h : s.lsp.val = 0) : outerLoops s = [] := by
  simp [outerLoops, h]

/-- The empty and the overflowed stack hold no entry that calls for RTS (LR). -/
theorem needsLr_of_no_entry {s : State} (hl : s.lsp.val = 0) (hp : s.pcstkp = 0 ∨ s.pcstkp = 31) :
    needsLr s = false := by
  refine needsLr_eq_false.2 ⟨?_, ?_⟩
  · unfold returnsIntoCounting
    split
    · rfl
    · rw [loopTop_of_no_loop hl, outerLoops_of_no_loop hl]
      rfl
  · rcases hp with hp | hp <;> simp [fromEndCall, hp]

theorem returnInterrupt_of_no_service {s : State} (h : readImaskp s = 0) (t : State) (db : Bool) :
    returnInterrupt s t db = returnTo s t db := by
  rw [returnInterrupt, h, lowestBit_of_zero]
  cases returnTo s t db <;> rfl

/-- The end of a routine whose entry pushed no status. -/
theorem returnInterrupt_of_plain_service {s t v : State} {j : A24} {b : Nat} {db : Bool}
    (returns : returnTo s t db = .ok (branched s v j db)) (hb : lowestBit (readImaskp s) = some b)
    (status : pushesStatus b = false) :
    returnInterrupt s t db = .ok (branched s (leaveService b v) j db) := by
  simp only [returnInterrupt, returns, bind_of_ok, hb, status, Bool.false_eq_true, if_false, leaveService_branched]

/-- The end of a routine whose entry pushed ASTAT and MODE1: they are restored, after a delayed RTI with the latency of
an explicit write. -/
theorem returnInterrupt_of_status_service {s t v : State} {j : A24} {b : Nat} {db : Bool} {a m : W32}
    {rest : List (W32 × W32)} (returns : returnTo s t db = .ok (branched s v j db))
    (hb : lowestBit (readImaskp s) = some b) (status : pushesStatus b = true) (hsts : v.sts = (a, m) :: rest)
    (hl : v.latent = []) :
    returnInterrupt s t db = .ok { branched s (leaveService b v) j db with
      astat := a &&& ~~~flagInMask, mode1 := m, sts := rest
      latent := if db = true then [(.mode1, s.mode1), (.astat, s.astat)] else [] } := by
  have popped : popStatus (branched s v j db) =
      .ok { branched s v j db with astat := a &&& ~~~flagInMask, mode1 := m, sts := rest } := by
    refine popStatus_ok.2 ⟨(a, m), rest, ?_, rfl⟩
    cases db <;> exact hsts
  simp only [returnInterrupt, returns, bind_of_ok, hb, status, if_true, popped, map_of_ok]
  cases db
  · simp only [Bool.false_eq_true, if_false, ← hl]
    rfl
  · have fresh : (branched s v j true).latent = [] := hl
    simp only [if_true, noteWrite, fresh]
    rfl

/-- Settles O54: each return is a pop of the PC stack and a branch to its top, by the stack's state; RTI besides ends
the routine in service. -/
theorem returnResults : Obligations.ReturnResults := by
  refine ⟨fun s cond c db e hs free may he holds fresh => ?_, fun s cond c db e j b hs free may he ready top => ?_⟩
  · have pointer : ∀ {p}, s.pcstkp = p → p = 0 ∨ p = 31 → ∀ t, sequenced s = .ok t →
        (applyEffect s t e).pcstkp = p := fun hp hempty t ht => by
      rw [applyEffect_pcstkp, (pointers_of_no_loop (no_loop_of_flowReady hs (hp ▸ hempty)) ht).2, hp]
    have plain : s.pcstkp = 0 ∨ s.pcstkp = 31 → needsLr s = false := fun hp =>
      needsLr_of_no_entry (no_loop_of_flowReady hs hp) hp
    refine ⟨fun h31 => ⟨drawBits 24 .pcstk s, drawBits 5 .overflowPop s, ?_⟩, fun h0 => ?_⟩
    · have returns : ∀ {i : Instr}, RunsAs i s (fun t => returnTo s (applyEffect s t e) db) →
          completes i s fun t => branched s { applyEffect s t e with pcstkp := drawBits 5 .overflowPop s }
            (drawBits 24 .pcstk s) db := fun hi =>
        (hi.congr_of_sequenced fun t ht => returnTo_of_overflow fresh (pointer h31 (.inr rfl) t ht) db).completes hs
      refine ⟨returns (runsAs_rts free may he holds (plain (.inr h31))), returns (runsAs_rtsLr free may he holds),
        fun idle => returns ?_⟩
      exact (runsAs_rti free may he holds (plain (.inr h31))).congr fun t => returnInterrupt_of_no_service idle _ _
    · have empty : ∀ t, sequenced s = .ok t →
          returnTo s (applyEffect s t e) db = .error (.refuse .emptyStackPop) := fun t ht =>
        returnTo_of_empty fresh (pointer h0 (.inl rfl) t ht) db
      refine ⟨(runsAs_rts free may he holds (plain (.inl h0))).refuses hs empty,
        (runsAs_rtsLr free may he holds).refuses hs empty,
        (runsAs_rti free may he holds (plain (.inl h0))).refuses hs fun t ht => ?_⟩
      rw [returnInterrupt, empty t ht, bind_of_error]
  · have returns : ∀ t, sequenced s = .ok t → returnTo s (applyEffect s t e) db =
        .ok (branched s { applyEffect s t e with pcstkp := s.pcstkp - 1 } j db) := fun t ht => by
      have pointer : (applyEffect s t e).pcstkp = s.pcstkp := by
        rw [applyEffect_pcstkp, (pointers_of_offLoopEnds (offLoopEnds_of_branchFree free) ht).2]
      have stack : pcTop (applyEffect s t e) = some j := by
        rw [← top, pcTop, pcTop, pcEntry, pcEntry, pointer, applyEffect_pcs, (sequenced_frame ht).1]
        rfl
      exact returnTo_of_top ready pointer stack rfl db
    refine ⟨fun fails => ?_, fun holds => ?_, fun holds lr => plainReturn_refused free may he holds hs lr,
      fun holds plain => ⟨?_, fun idle => ?_, fun hb serviced lowest => ?_⟩⟩
    · have skips : ∀ {k : Instr} {f : State → Res State},
          exec k s = branch cond db false (slotEffect c s) s f → completes k s fun t => notTaken s t db := fun hk =>
        completes_untaken hs hk (branchHere_of_branchFree free _) may fails
      exact ⟨skips (exec_rts ..), skips (exec_rtsLr ..), skips (exec_rti ..)⟩
    · exact ((runsAs_rtsLr free may he holds).congr_of_sequenced returns).completes hs
    · exact ((runsAs_rts free may he holds plain).congr_of_sequenced returns).completes hs
    · refine ((runsAs_rti free may he holds plain).congr_of_sequenced fun t ht => ?_).completes hs
      rw [returnInterrupt_of_no_service idle, returns t ht]
    · have ends := lowestBit_eq_some hb serviced lowest
      have left : ∀ t, sequenced s = .ok t → leaveService b { applyEffect s t e with pcstkp := s.pcstkp - 1 } =
          { applyEffect s t e with
            pcstkp := s.pcstkp - 1, imaskp := s.imaskp &&& ~~~bitMask b, irptl := s.irptl &&& ~~~bitMask b } :=
        fun t ht => by
          obtain ⟨-, hirptl, himaskp⟩ := sameLatch_of_sequenced ht
          exact leaveService_eq (t := { applyEffect s t e with pcstkp := s.pcstkp - 1 })
            ((applyEffect_imaskp ..).trans himaskp) ((applyEffect_irptl ..).trans hirptl) b
      refine ⟨fun status => ?_, fun a m rest status hsts => ?_⟩
      · refine ((runsAs_rti free may he holds plain).congr_of_sequenced fun t ht => ?_).completes hs
        rw [returnInterrupt_of_plain_service (returns t ht) ends status, left t ht]
      · refine ((runsAs_rti free may he holds plain).congr_of_sequenced fun t ht => ?_).completes hs
        have same := sameStatus_of_sequenced ht
        rw [returnInterrupt_of_status_service (returns t ht) ends status
          ((applyEffect_sts ..).trans (same.sts.trans hsts)) ((applyEffect_latent ..).trans same.latent), left t ht]

/-! The two locations after a delayed branch (R440). -/

section
variable {s : State} (h : inSlot s = true)
include h

theorem notInSlot_of_inSlot : notInSlot s = .error (.refuse .forbiddenInDelaySlot) := by
  simp [notInSlot, h]

/-- A branch is refused before its condition is looked at. -/
theorem branch_of_inSlot (c : Cond) (db call : Bool) (e : Res Effect) (f : State → Res State) :
    branch c db call e s f = .refused .forbiddenInDelaySlot := by
  rw [branch, branchHere, notInSlot_of_inSlot h]
  rfl

/-- So is a write of a stack register. -/
theorem writing_of_inSlot {dst : Ureg} (hd : stackRegister dst = true) (mem : Bool)
    (o : Host.Outcome State Fault Refusal) : writing dst mem s o = .refused .forbiddenInDelaySlot := by
  simp [writing, mayStand, h, hd]

theorem startLoop_of_inSlot (t : State) (e : A24) (term : Cond) :
    startLoop s t e term = .error (.refuse .forbiddenInDelaySlot) := by
  rw [startLoop, notInSlot_of_inSlot h, bind_of_error]

theorem waitHere_of_inSlot (t : State) : waitHere s t = .error (.refuse .forbiddenInDelaySlot) := by
  rw [waitHere, notInSlot_of_inSlot h, map_of_error]

theorem stackInstr_of_inSlot {i : Instr} {f : State → Res State} (hs : flowReady s = true)
    (hi : exec i s = stackInstr s f) : exec i s = .refused .forbiddenInDelaySlot :=
  (runsAs_always hi).refuses hs fun t _ => by rw [notInSlot_of_inSlot h, bind_of_error]

end

/-- Settles O56: a branch and a write of a stack register are refused before the sequencer runs, the others after it. -/
theorem delaySlotRestrictions : Obligations.DelaySlotRestrictions := by
  intro s cond term c db ci a off a32 m i tg v src dst x y slot refusedHere
  have flow : ∀ {k : Instr} {call : Bool} {f : State → Res State},
      exec k s = branch cond db call (slotEffect c s) s f → refusedHere k := fun hk =>
    hk.trans (branch_of_inSlot slot _ _ _ _ _)
  have stops : flowReady s = true → ∀ {k : Instr} {f : State → Res State}, exec k s = always s f →
      (∀ t, f t = .error (.refuse .forbiddenInDelaySlot)) → refusedHere k := fun hs {_ _} hk hf =>
    (runsAs_always hk).refuses hs fun t _ => hf t
  refine ⟨flow (exec_jumpAbs ..), flow (exec_jumpRel ..), flow (exec_jumpInd ..), flow (exec_callAbs ..),
    flow (exec_callRel ..), flow (exec_callInd ..), flow (exec_rts ..), flow (exec_rtsLr ..), flow (exec_rti ..),
    flow (exec_jumpLa ..), flow (exec_jumpCi ..),
    fun hd => ?_, fun hs => ?_⟩
  · have stack : stackRegister dst = true := by
      rcases hd with rfl | rfl | rfl | rfl | rfl <;> rfl
    have write : ∀ {k : Instr} {mem : Bool} {o : Host.Outcome State Fault Refusal},
        exec k s = writing dst mem s o → refusedHere k := fun hk => hk.trans (writing_of_inSlot slot stack _ _)
    exact ⟨write rfl, write rfl, write rfl, write rfl, write rfl, write rfl, write rfl, write rfl⟩
  · have loop : ∀ {k : Instr} {load : State → State} {e : A24},
        (exec k s = always s fun t => startLoop s (load t) e term) → refusedHere k := fun hk =>
      stops hs hk fun _ => startLoop_of_inSlot slot _ _ _
    have counted : givesRead s src = true → refusedHere (.doCountUreg src ⟨a, term⟩) := fun hr =>
      stops hs rfl fun t => by rw [takeUreg_of_givesRead hr, bind_of_ok, startLoop_of_inSlot slot]
    have stack : ∀ {k : Instr} {f : State → Res State}, exec k s = stackInstr s f → refusedHere k :=
      stackInstr_of_inSlot slot hs
    have waits : ∀ {k : Instr}, exec k s = always s (waitHere s ·) → refusedHere k := fun hk =>
      stops hs hk (waitHere_of_inSlot slot)
    exact ⟨loop (load := id) rfl, loop (load := id) rfl, loop rfl, counted, stack rfl, stack rfl, stack rfl, stack rfl,
      stack rfl, stack rfl, waits rfl, fun part => waits (exec_idle16_of_part part)⟩

end Sys2Proof.Machine
end

-- Proofs of the statements of 60_exceptions.md and of the machine's own invariants.
section
/-! SUPPORT. The canonical form of memory through every step, the boundary's interrupt requests, and the entry of an
interrupt. -/

namespace Sys2Proof.Machine

/-! The step relation of StepKeepsMemoryCanonical, operation by operation. -/

/-- `t` has its memory and its two lists of written words in canonical form where `s` has. -/
def KeepsCanonical (s t : State) : Prop := memoryCanonical s = true → memoryCanonical t = true

theorem memoryCanonical_iff {s : State} :
    memoryCanonical s = true ↔ s.mem.wf = true ∧ rises s.dirty = true ∧ rises s.rewidth = true := by
  simp [memoryCanonical, and_assoc]

theorem resetWith_memoryCanonical (p : Params) : memoryCanonical (State.resetWith p) = true :=
  memoryCanonical_iff.2 ⟨reset_mem_wf p, rfl, rfl⟩

namespace KeepsCanonical

variable {r s t u : State}

theorem refl (s : State) : KeepsCanonical s s := id

theorem trans (h : KeepsCanonical r s) (h' : KeepsCanonical s t) : KeepsCanonical r t := h' ∘ h

/-- An operation that leaves memory and the two lists alone. -/
theorem of_kept (h : KeepsCanonical s t) (hu : KeepsMemory t u) : KeepsCanonical s u := by
  have kept : memoryPart u = memoryPart t := hu
  simp only [memoryPart, Prod.mk.injEq] at kept
  obtain ⟨hmem, hdirty, hrewidth⟩ := kept
  refine h.trans fun ht => ?_
  obtain ⟨wf, dirty, rewidth⟩ := memoryCanonical_iff.1 ht
  exact memoryCanonical_iff.2 ⟨by rwa [hmem], by rwa [hdirty], by rwa [hrewidth]⟩

/-! Stores. -/

theorem after_storeWord (h : KeepsCanonical s t) (sp : Space) (full : Bool) (a : Nat) (v : W48) :
    KeepsCanonical s (storeWord t sp full a v) := h.trans (storeWord_canonical sp full a v)

theorem after_writeWord (h : KeepsCanonical s t) (sp : Space) (full : Bool) (a : Nat) (v : W48) :
    Yields (writeWord t sp full a v) (KeepsCanonical s) := fun _ hu => h.trans (writeWord_canonical hu)

theorem after_sideStore (h : KeepsCanonical s t) (r : State) (sp : Space) (side : DualSide) (a : Nat) :
    Yields (sideStore r t sp side a) (KeepsCanonical s) := by
  unfold sideStore
  split
  · exact h.after_writeWord _ _ _ _
  · exact yields_ok h

/-! What stands beside a store: the sequencer, a computation, a register write and the post-modify. -/

theorem of_sequenced (h : sequenced s = .ok t) : KeepsCanonical s t := (refl s).of_kept (KeepsMemory.of_sequenced h)

theorem after_withSlot (h : KeepsCanonical s t) (r : State) (c : Option Compute) :
    Yields (withSlot c r t) (KeepsCanonical s) :=
  yields_map fun e => h.of_kept (KeepsMemory.after_applyEffect rfl r e)

theorem after_sideWrite (h : KeepsCanonical s t) (r : State) (side : DualSide) (v : W48) :
    KeepsCanonical s (sideWrite r t side v) := h.of_kept (KeepsMemory.after_sideWrite rfl r side v)

theorem after_updateDag1 (h : KeepsCanonical s t) (r : State) (i m : Fin 8) :
    KeepsCanonical s (updateDag1 r t i m) := h.of_kept (KeepsMemory.after_updateDag1 rfl r i m)

theorem after_updateDag2 (h : KeepsCanonical s t) (r : State) (i m : Fin 8) :
    KeepsCanonical s (updateDag2 r t i m) := h.of_kept (KeepsMemory.after_updateDag2 rfl r i m)

/-! The forms of an instruction that can store. -/

theorem of_always {f : State → Res State} (hf : ∀ t, KeepsCanonical s t → Yields (f t) (KeepsCanonical s)) :
    Leads (always s f) (KeepsCanonical s) := leads_always fun t ht => hf t (of_sequenced ht)

theorem of_conditional {c : Cond} {f : State → Res State}
    (hf : ∀ t, KeepsCanonical s t → Yields (f t) (KeepsCanonical s)) :
    Leads (conditional c s id f) (KeepsCanonical s) :=
  leads_conditional (fun _ ht => of_sequenced ht) fun t ht => hf t (of_sequenced ht)

/-! What happens at the boundary. -/

theorem after_timerTick (h : KeepsCanonical s t) (r : State) : KeepsCanonical s (timerTick r t) := by
  rw [timerTick_frame]
  exact h.of_kept rfl

theorem after_waitStep (h : KeepsCanonical s t) : KeepsCanonical s (waitStep t) := by
  refine KeepsCanonical.after_timerTick ?_ t
  exact h.of_kept rfl

theorem after_latchArithmetic (h : KeepsCanonical s t) : KeepsCanonical s (latchArithmetic t) := h.of_kept rfl

theorem after_holdRequest (h : KeepsCanonical s t) : KeepsCanonical s (holdRequest t) := by
  unfold holdRequest
  split
  · exact h.of_kept rfl
  · split
    · exact h.of_kept rfl
    · exact h

/-- The words another agent writes (R119). -/
theorem after_envWrites (h : KeepsCanonical s t) (l : List (Nat × W48)) :
    KeepsCanonical s (l.foldl envWrite t) := by
  induction l generalizing t with
  | nil => exact h
  | cons w l ih =>
    refine ih ?_
    unfold envWrite
    split
    · exact h.after_storeWord _ _ _ _
    · exact h

/-- A reset loads the boot image anew, whatever memory held (R570). -/
theorem after_envAct (h : KeepsCanonical s t) (e : EnvIn) : KeepsCanonical s (envAct t e) := by
  unfold envAct
  split
  · exact fun _ => resetWith_memoryCanonical t.cfg
  · exact (h.after_envWrites e.writes).of_kept rfl

theorem after_envStep (s : State) : KeepsCanonical s (envStep s) := by
  unfold envStep
  split
  · exact refl s
  · refine KeepsCanonical.after_envAct ?_ _
    exact (refl s).of_kept rfl

theorem after_takeInterrupt (h : KeepsCanonical s t) (b : Nat) : KeepsCanonical s (takeInterrupt t b) := by
  have pushed : KeepsMemory t (pushPc t (entryReturn t)) := KeepsMemory.after_pushPc rfl _
  refine h.of_kept ?_
  unfold takeInterrupt
  dsimp only
  split
  · exact pushed.after_pushStatus
  · exact pushed

end KeepsCanonical

/-- The two-move form, each side a load or a store. -/
theorem execDualMove_keepsCanonical (cond : Cond) (c : Option Compute) (dm pm : DualSide) (s : State) :
    Leads (execDualMove cond c dm pm s) (KeepsCanonical s) :=
  KeepsCanonical.of_conditional fun _ ht => yields_bind fun _ => yields_bind fun _ => yields_bind fun _ =>
    (ht.after_withSlot s _).bind fun _ hu => (hu.after_sideStore s _ _ _).bind fun _ hv =>
      (hv.after_sideStore s _ _ _).map fun _ hw =>
        (((hw.after_sideWrite s _ _).after_sideWrite s _ _).after_updateDag1 s _ _).after_updateDag2 s _ _

/-- Every instruction that goes on keeps the canonical form: those that can store by the laws of the store, the others
because they leave memory alone. -/
theorem exec_keepsCanonical (i : Instr) (s : State) : Leads (exec i s) (KeepsCanonical s) := by
  cases hi : canStore i with
  | false => exact fun t ht => (KeepsCanonical.refl s).of_kept (exec_keepsMemory s hi t ht)
  | true =>
    cases i
    case stDmPost =>
      exact KeepsCanonical.of_conditional fun _ ht => yields_bind fun _ => (ht.after_withSlot s _).bind fun _ hu =>
        (hu.after_writeWord _ _ _ _).map fun _ hw => hw.after_updateDag1 s _ _
    case stPmPost =>
      exact KeepsCanonical.of_conditional fun _ ht => yields_bind fun _ => (ht.after_withSlot s _).bind fun _ hu =>
        (hu.after_writeWord _ _ _ _).map fun _ hw => hw.after_updateDag2 s _ _
    case stDmPre | stPmPre =>
      exact KeepsCanonical.of_conditional fun _ ht => yields_bind fun _ =>
        (ht.after_withSlot s _).bind fun _ hu => hu.after_writeWord _ _ _ _
    case stDmAbs | stPmAbs =>
      exact KeepsCanonical.of_always fun _ ht => yields_bind fun _ => ht.after_writeWord _ _ _ _
    case dualMove => exact execDualMove_keepsCanonical _ _ _ _ s
    all_goals cases hi

/-- Settles O14: the boundary, an interrupt entry, a wait and every instruction each keep the canonical form. -/
theorem stepKeepsMemoryCanonical : Obligations.StepKeepsMemoryCanonical := by
  intro s t canonical h
  have boundary : KeepsCanonical s (atBoundaryOf s) :=
    (KeepsCanonical.after_envStep s).after_holdRequest.after_latchArithmetic
  suffices kept : KeepsCanonical s t from kept canonical
  rcases step_next h with ⟨b, -, rfl⟩ | ⟨-, -, rfl⟩ | ⟨-, -, i, u, -, hu, rfl⟩
  · exact (KeepsCanonical.after_envStep s).after_latchArithmetic.after_takeInterrupt b
  · exact boundary.after_waitStep
  · exact (boundary.trans (exec_keepsCanonical i _ u hu)).after_timerTick _

/-- Settles O2: the boot image is loaded in canonical form, and the registers the other two invariants read are zero. -/
theorem resetMeetsInvariants : Obligations.ResetMeetsInvariants := fun p =>
  ⟨resetWith_memoryCanonical p,
    interruptsConsistent_iff.2 ⟨BitVec.zero_and, BitVec.zero_and, Nat.zero_le _⟩,
    statusStored_iff.2 ⟨BitVec.zero_and, BitVec.zero_and⟩⟩

/-! Single bits of interrupt words (R503, R506, R522). -/

theorem bitOf_or (v w : W32) (k : Nat) : bitOf (v ||| w) k = (bitOf v k || bitOf w k) := BitVec.getLsbD_or

theorem bitOf_and (v w : W32) (k : Nat) : bitOf (v &&& w) k = (bitOf v k && bitOf w k) := BitVec.getLsbD_and

theorem bitOf_not {k : Nat} (hk : k < 32) (v : W32) : bitOf (~~~v) k = !bitOf v k := by
  simp [bitOf, hk]

theorem bitOf_bitMask {k : Nat} (hk : k < 32) (b : Nat) : bitOf (bitMask b) k = decide (k = b) :=
  getLsbD_bitMask b hk

theorem bitOf_flagBit {k : Nat} (hk : k < 32) (b : Nat) (x : Bool) :
    bitOf (flagBit b x) k = (decide (k = b) && x) := by
  cases x
  · simp [bitOf]
  · rw [Bool.and_true]
    exact bitOf_bitMask hk b

/-- The bits below `h`, those of strictly higher priority (R522). -/
theorem bitOf_bitMask_sub_one {h k : Nat} (hh : h < 32) (hk : k < 32) :
    bitOf (bitMask h - 1) k = decide (k < h) := by
  have word : bitMask h - 1 = BitVec.ofNat 32 (2 ^ h - 1) := by
    have pow : 2 ^ h < 2 ^ 32 := Nat.pow_lt_pow_right (by decide) hh
    have pos : 0 < 2 ^ h := Nat.two_pow_pos h
    rw [bitMask, Nat.one_shiftLeft, BitVec.natCast_eq_ofNat]
    bv_omega
  rw [word, bitOf, BitVec.getLsbD_ofNat, Nat.testBit_two_pow_sub_one, decide_eq_true hk, Bool.true_and]

/-- The bit found is set and none below it is. -/
theorem lowestBit_eq_some_iff {w : W32} {b : Nat} :
    lowestBit w = some b ↔ b < 32 ∧ bitOf w b = true ∧ ∀ k < b, bitOf w k = false := by
  refine ⟨fun h => ?_, fun ⟨hb, hw, lowest⟩ => lowestBit_eq_some hb hw lowest⟩
  rw [lowestBit, List.find?_range_eq_some] at h
  obtain ⟨hw, hb, lowest⟩ := h
  exact ⟨List.mem_range.1 hb, hw, fun k hk => by simpa using lowest k hk⟩

theorem lowestBit_eq_none_iff {w : W32} : lowestBit w = none ↔ ∀ k < 32, bitOf w k = false := by
  simp [lowestBit]

/-! The valid request (R505, R506, R520, R522, R525). -/

/-- No interrupt in service keeps out `b`: each has a higher number, and nesting is on (R522). -/
def outranksService (s : State) (b : Nat) : Prop :=
  ∀ k < 32, bitOf s.imaskp k = true → b < k ∧ bitOf s.mode1 11 = true

/-- Interrupt `b` is latched and unmasked. -/
def pending (s : State) (b : Nat) : Prop := bitOf s.irptl b = true ∧ bitOf s.imask b = true

/-- TMASK lets through what is unmasked and outranks the routines in service. -/
theorem bitOf_tmask {s : State} {b : Nat} (hb : b < 32) :
    bitOf (tmask s) b = true ↔ bitOf s.imask b = true ∧ outranksService s b := by
  unfold tmask
  split
  · next unserved =>
    have idle := lowestBit_eq_none_iff.1 unserved
    exact ⟨fun h => ⟨h, fun k hk served => by simp [idle k hk] at served⟩, And.left⟩
  · next h served =>
    obtain ⟨hh, serves, lowest⟩ := lowestBit_eq_some_iff.1 served
    have outranks : outranksService s b ↔ b < h ∧ bitOf s.mode1 11 = true := by
      refine ⟨fun all => all h hh serves, fun ⟨below, nests⟩ k hk hs => ⟨?_, nests⟩⟩
      by_contra above
      simp [lowest k (by omega)] at hs
    rw [outranks]
    split
    · next nests =>
      rw [bitOf_and, bitOf_bitMask_sub_one hh hb, Bool.and_eq_true, decide_eq_true_iff, and_iff_left nests]
    · next single =>
      have closed : bitOf 0 b ≠ true := by simp [bitOf]
      exact iff_of_false closed fun ⟨_, _, nests⟩ => single nests

/-- What an interrupt must meet to be the candidate of R505; the reset interrupt, bit 1, never is (R525). -/
theorem bitOf_candidates {s : State} {b : Nat} (hb : b < 32) :
    bitOf (s.irptl &&& tmask s &&& ~~~bitMask 1) b = true ↔ pending s b ∧ outranksService s b ∧ b ≠ 1 := by
  rw [bitOf_and, bitOf_and, bitOf_not hb, bitOf_bitMask hb, Bool.and_eq_true, Bool.and_eq_true, bitOf_tmask hb, pending]
  simp only [Bool.not_eq_true', decide_eq_false_iff_not]
  tauto

theorem outranksService.mono {s : State} {b k : Nat} (h : outranksService s b) (hk : k < b) : outranksService s k :=
  fun j hj served => ⟨Nat.lt_trans hk (h j hj served).1, (h j hj served).2⟩

theorem validRequest_eq_some_iff {s : State} {b : Nat} :
    validRequest s = some b ↔
      bitOf s.mode1 12 = true ∧ b < 32 ∧ (pending s b ∧ outranksService s b ∧ b ≠ 1) ∧
        ∀ k < b, k ≠ 1 → ¬ pending s k := by
  unfold validRequest
  split
  · next enabled =>
    rw [lowestBit_eq_some_iff]
    constructor
    · rintro ⟨hb, found, lowest⟩
      obtain ⟨waiting, outranks, notReset⟩ := (bitOf_candidates hb).1 found
      refine ⟨enabled, hb, ⟨waiting, outranks, notReset⟩, fun k hk hne waits => ?_⟩
      have passed := (bitOf_candidates (by omega)).2 ⟨waits, outranks.mono hk, hne⟩
      simp [lowest k hk] at passed
    · rintro ⟨-, hb, candidate, first⟩
      refine ⟨hb, (bitOf_candidates hb).2 candidate, fun k hk => Bool.eq_false_iff.2 fun found => ?_⟩
      obtain ⟨waits, -, hne⟩ := (bitOf_candidates (by omega)).1 found
      exact first k hk hne waits
  · next disabled => simp [disabled]

/-! The entry at a boundary (R514). -/

/-- No register that decides the valid request is in its effect latency (D14). -/
def requestsSettled (s : State) : Prop :=
  ∀ r ∈ s.latent, r.1 ≠ .irptl ∧ r.1 ≠ .imask ∧ r.1 ≠ .imaskp ∧ r.1 ≠ .mode1

theorem entryAllowed_iff {s : State} :
    entryAllowed s = true ↔ s.dbr = none ∧ s.tail = none ∧ s.justEntered = false ∧ requestsSettled s := by
  simp [entryAllowed, requestsSettled, and_assoc]

theorem entryWanted_eq_some_iff {s : State} {b : Nat} :
    entryWanted s = some b ↔ entryAllowed s = true ∧ validRequest s = some b := by
  simp [entryWanted]

/-- An entry is one that is wanted. -/
theorem entryWanted_of_entryNow {s : State} {b : Nat} (h : entryNow s = some b) : entryWanted s = some b := by
  unfold entryNow at h
  split at h
  · cases h
  · exact h

/-- Once it has waited as long as it may, what is wanted is entered. -/
theorem entryNow_of_held {s : State} (h : s.cfg.irqDelayMax ≤ s.irqHeld) : entryNow s = entryWanted s := by
  have waited : entryWaits s = false := by simp [entryWaits, h]
  simp [entryNow, waited]

/-- The arithmetic requests (R507), bit by bit. -/
theorem bitOf_latchArithmetic (s : State) {k : Nat} (hk : k < 32) :
    let y := effStky s
    bitOf (latchArithmetic s).irptl k = true ↔ bitOf s.irptl k = true ∨ (bitOf s.imaskp k = false ∧
      ((k = 24 ∧ (bitOf y 2 = true ∨ bitOf y 6 = true)) ∨ (k = 25 ∧ (bitOf y 1 = true ∨ bitOf y 7 = true)) ∨
        (k = 26 ∧ (bitOf y 0 = true ∨ bitOf y 8 = true)) ∨ (k = 27 ∧ (bitOf y 5 = true ∨ bitOf y 9 = true)))) := by
  simp only [latchArithmetic, bitOf_or, bitOf_and, bitOf_not hk, bitOf_flagBit hk, Bool.or_eq_true, Bool.and_eq_true,
    Bool.not_eq_true', decide_eq_true_eq, or_assoc]
  tauto

theorem effStky_of_no_latent {s : State} (h : s.latent = []) : effStky s = s.stky := by
  simp [effStky, effective, h]

/-- Settles O5: the requests bit by bit; an entry is the valid request at a boundary that allows it, and the wait has an
end. -/
theorem enteredInterruptIsValid : Obligations.EnteredInterruptIsValid := by
  refine ⟨fun s k hk => ⟨rfl, effStky_of_no_latent, bitOf_latchArithmetic s hk⟩, ?_, ?_⟩
  · intro s b hb hne latched unmasked first enabled outranks hdbr htail hentered settled held
    rw [entryNow_of_held held, entryWanted_eq_some_iff]
    exact ⟨entryAllowed_iff.2 ⟨hdbr, htail, hentered, settled⟩,
      validRequest_eq_some_iff.2 ⟨enabled, hb, ⟨⟨latched, unmasked⟩, outranks, hne⟩, first⟩⟩
  · intro s b h
    obtain ⟨allowed, valid⟩ := entryWanted_eq_some_iff.1 (entryWanted_of_entryNow h)
    obtain ⟨hdbr, htail, hentered, settled⟩ := entryAllowed_iff.1 allowed
    obtain ⟨enabled, hb, ⟨⟨latched, unmasked⟩, outranks, hne⟩, first⟩ := validRequest_eq_some_iff.1 valid
    exact ⟨hb, latched, unmasked, hne, enabled, outranks, first, hdbr, htail, hentered, settled⟩

/-! Taking an interrupt (R510, R512, R516). -/

theorem pushesStatus_iff {b : Nat} :
    pushesStatus b = true ↔ b = 4 ∨ b = 5 ∨ b = 6 ∨ b = 7 ∨ b = 8 ∨ b = 23 := by
  simp [pushesStatus, or_assoc]

theorem pushStatus_of_room {s : State} (h : s.sts.length < s.cfg.stsDepth) :
    pushStatus s = { s with sts := (readSreg s .astat, s.mode1) :: s.sts } := if_pos h

theorem pushPc_pcstkp {s : State} (h : s.pcstkp.toNat < 30) (a : A24) : (pushPc s a).pcstkp = s.pcstkp + 1 := by
  rw [pushPc_of_room h]

/-- Only the entry the push writes changes. -/
theorem pushPc_get_of_ne {s : State} (h : s.pcstkp.toNat < 30) (a : A24) {k : Fin 30}
    (hk : k.val ≠ s.pcstkp.toNat) : (pushPc s a).pcs.get k = s.pcs.get k := by
  rw [pushPc_of_room h]
  exact (get_set _ a h k).trans (if_neg hk.symm)

/-- The stacks after the entry of `b`: the return address, and for some interrupts the status (R510, R516). -/
def entryPushed (s : State) (b : Nat) : State :=
  if pushesStatus b then pushStatus (pushPc s (entryReturn s)) else pushPc s (entryReturn s)

theorem takeInterrupt_eq (s : State) (b : Nat) :
    takeInterrupt s b = { entryPushed s b with
      irptl := (entryPushed s b).irptl &&& ~~~bitMask b
      imaskp := (entryPushed s b).imaskp ||| bitMask b
      pc := ivtBase s.cfg + BitVec.ofNat 24 (4 * b)
      idle := none, justEntered := true, nonSeq := 2, latentPcstkp := none, irqHeld := 0, drawn := s.drawn + 1 } := rfl

/-- The pair goes on top of the status stack as ASTAT and MODE1 were before the entry. -/
theorem entryPushed_of_room {s : State} {b : Nat} (room : s.pcstkp.toNat < 28)
    (status : pushesStatus b = true → s.sts.length < s.cfg.stsDepth) :
    entryPushed s b = { s with
      pcs := (pushPc s (entryReturn s)).pcs, endCalls := (pushPc s (entryReturn s)).endCalls, pcstkp := s.pcstkp + 1
      sts := if pushesStatus b = true then (readSreg s .astat, s.mode1) :: s.sts else s.sts } := by
  have noRequest : (pushPc s (entryReturn s)).irptl = s.irptl := by
    rw [pushPc_irptl, if_neg (by bv_omega)]
  have pointer := pushPc_pcstkp (s := s) (by omega) (entryReturn s)
  have pushed := pushPc_frame s (entryReturn s)
  rw [noRequest, pointer] at pushed
  generalize (pushPc s (entryReturn s)).pcs = pcs, (pushPc s (entryReturn s)).endCalls = endCalls at pushed ⊢
  unfold entryPushed
  rw [pushed]
  split
  · next pushes => exact pushStatus_of_room (status pushes)
  · rfl

/-- Settles O4: the entry's state, field by field, where both stacks have room. -/
theorem stepEntersInterrupt : Obligations.StepEntersInterrupt := by
  intro s₀ b entry s room status
  have enters : step s₀ = .next (takeInterrupt s b) := by
    simp only [step, entry, s]
  have space : s.pcstkp.toNat < 30 := by omega
  refine ⟨_, enters, ?_⟩
  rw [takeInterrupt_eq, entryPushed_of_room room status]
  refine ⟨rfl, ?_, fun k hk => pushPc_get_of_ne space _ hk, ?_, rfl, rfl, rfl, rfl, fun _ => rfl⟩
  · have top := pcTop_of_pushPc space (entryReturn s)
    rw [pcTop, pushPc_pcstkp space] at top
    exact top
  · simp only [pushesStatus_iff]

end Sys2Proof.Machine
end
